-- ==== Sys2Proof/Word.lean ====
section
/-! DEFINITION. The words, widths and tables of the crickey CRC core (spec/00_scope.md R5, R6, R7; spec/10_state.md R24). -/

namespace Sys2Proof

/-- The data element: one 8-bit byte (00_scope.md section 5). -/
abbrev Byte := BitVec 8

/-- A host-visible register, a command word, a data address (10_state.md R11, 20_memory.md R40). -/
abbrev Word := BitVec 32

/-- `CrcWidth`, "one of 8, 16, 32" (00_scope.md R5): which builder, engine and table memory (30_encoding.md R63). -/
inductive Width where
  | w8
  | w16
  | w32
  deriving DecidableEq, Repr

/-- The number W of bits of a width. -/
abbrev Width.bits : Width → Nat
  | .w8 => 8
  | .w16 => 16
  | .w32 => 32

/-- A table memory of width W: exactly 256 entries of W bits (10_state.md R24); another size cannot exist. -/
abbrev Table (W : Nat) := Vector (BitVec W) 256

end Sys2Proof
end

