-- ==== Sys2Proof/Syntax.lean ====
section
/-! DEFINITION. The command set: one constructor per row of spec/opcode_table.json (30_encoding.md R65, R68). -/

namespace Sys2Proof

/-- The ten commands. `n` is NBITS at face value (R64); `ri` and `ro` are the booleans of R62. The commands'
other operands are registers (R62), not part of the word. -/
inductive Instr where
  /-- REFLECT n (40_reflect.md R81). -/
  | reflect (n : Nat)
  /-- BUILD8 (41_table_build.md R93). -/
  | build8
  /-- BUILD16 (41_table_build.md R94). -/
  | build16
  /-- BUILD32 (41_table_build.md R95). -/
  | build32
  /-- COMPUTE8[.RI][.RO] (42_crc_compute.md R107). -/
  | compute8 (ri ro : Bool)
  /-- COMPUTE16[.RI][.RO] (42_crc_compute.md R108). -/
  | compute16 (ri ro : Bool)
  /-- COMPUTE32[.RI][.RO] (42_crc_compute.md R109). -/
  | compute32 (ri ro : Bool)
  /-- CRC8[.RI][.RO] (43_crc_oneshot.md R121). -/
  | crc8 (ri ro : Bool)
  /-- CRC16[.RI][.RO] (43_crc_oneshot.md R122). -/
  | crc16 (ri ro : Bool)
  /-- CRC32[.RI][.RO] (43_crc_oneshot.md R123). -/
  | crc32 (ri ro : Bool)
  deriving DecidableEq, Repr

end Sys2Proof
end

