-- ==== Sys2Proof/WellFormed.lean ====
section
/-! DEFINITION. Which commands a command word can express (30_encoding.md R64, R68). -/

namespace Sys2Proof

/-- The operands fit their fields. The one operand that can be too large for its field is NBITS, which the word
carries in six bits: `REFLECT n` has n in 0..63 (R64, R68). The values 33..63 are well formed: they decode, and
then fault (R67). RI and RO are one bit each by their type. -/
def Instr.wellFormed : Instr → Bool
  | .reflect n => decide (n < 64)
  | .build8 => true
  | .build16 => true
  | .build32 => true
  | .compute8 _ _ => true
  | .compute16 _ _ => true
  | .compute32 _ _ => true
  | .crc8 _ _ => true
  | .crc16 _ _ => true
  | .crc32 _ _ => true

end Sys2Proof
end

