-- ==== Sys2Proof/Decode.lean ====
section
/-! DEFINITION. The command word: its fields, its decoder (total, rejecting by name) and its encoder
(spec/30_encoding.md R60 to R67). -/

namespace Sys2Proof

/-! The fields of format C (R61). -/

/-- OP, bits 3:0. -/
def fieldOp (w : Word) : BitVec 4 := w.extractLsb' 0 4
/-- WSEL, bits 5:4. -/
def fieldWsel (w : Word) : BitVec 2 := w.extractLsb' 4 2
/-- RI, bit 8. -/
def fieldRi (w : Word) : Bool := w.getLsbD 8
/-- RO, bit 9. -/
def fieldRo (w : Word) : Bool := w.getLsbD 9
/-- NBITS, bits 21:16. -/
def fieldNbits (w : Word) : BitVec 6 := w.extractLsb' 16 6
/-- The must-be-zero bits 7:6, 15:10 and 31:22 all hold zero. -/
def reservedBitsClear (w : Word) : Bool :=
  w.extractLsb' 6 2 = 0#2 && w.extractLsb' 10 6 = 0#6 && w.extractLsb' 22 10 = 0#10

/-- Why a word encodes no command (R67). The core reports each of these by the one fault ILLCMD; the names are
the model's, and no state records them. -/
inductive DecodeReject where
  /-- One of the bits 7:6, 15:10, 31:22 is set. -/
  | mustBeZero
  /-- OP is 0 or 5 to 15. -/
  | reservedOp
  /-- WSEL is 3 in a BUILD, COMPUTE or CRC word (R63). -/
  | reservedWsel
  /-- A field the operation does not use is not zero (the second table of R61). -/
  | unusedField
  deriving DecidableEq, Repr

/-- The instance WSEL selects: W = 8 * 2^WSEL, and 3 is reserved (R63). -/
def selectWidth (wsel : BitVec 2) : Option Width :=
  match wsel.toNat with
  | 0 => some .w8
  | 1 => some .w16
  | 2 => some .w32
  | _ => none

/-- The BUILD command of a width. -/
def buildOf : Width → Instr
  | .w8 => .build8
  | .w16 => .build16
  | .w32 => .build32

/-- The COMPUTE command of a width. -/
def computeOf (ri ro : Bool) : Width → Instr
  | .w8 => .compute8 ri ro
  | .w16 => .compute16 ri ro
  | .w32 => .compute32 ri ro

/-- The CRC command of a width. -/
def crcOf (ri ro : Bool) : Width → Instr
  | .w8 => .crc8 ri ro
  | .w16 => .crc16 ri ro
  | .w32 => .crc32 ri ro

/-- The command with the width WSEL selects, or the rejection of WSEL = 3. -/
def withWidth (wsel : BitVec 2) (f : Width → Instr) : Except DecodeReject Instr :=
  match selectWidth wsel with
  | some w => .ok (f w)
  | none => .error .reservedWsel

/-- Decoding, total on the 2^32 words: the command of the one row of R65 the word matches, or why it is illegal
(R66 step 2, R67). -/
def decode (w : Word) : Except DecodeReject Instr :=
  if reservedBitsClear w then
    match (fieldOp w).toNat with
    | 1 =>
      if fieldWsel w = 0#2 && !fieldRi w && !fieldRo w then .ok (.reflect (fieldNbits w).toNat)
      else .error .unusedField
    | 2 =>
      if !fieldRi w && !fieldRo w && fieldNbits w = 0#6 then withWidth (fieldWsel w) buildOf
      else .error .unusedField
    | 3 =>
      if fieldNbits w = 0#6 then withWidth (fieldWsel w) (computeOf (fieldRi w) (fieldRo w))
      else .error .unusedField
    | 4 =>
      if fieldNbits w = 0#6 then withWidth (fieldWsel w) (crcOf (fieldRi w) (fieldRo w))
      else .error .unusedField
    | _ => .error .reservedOp
  else .error .mustBeZero

/-- `match or (RI * 0x100) or (RO * 0x200)` (R65). -/
def withReflection (pattern : Word) (ri ro : Bool) : Word :=
  pattern ||| (if ri then 0x100#32 else 0#32) ||| (if ro then 0x200#32 else 0#32)

/-- The word of a command (R65). -/
def encode : Instr → Word
  | .reflect n => 0x00000001#32 ||| BitVec.ofNat 32 (n * 0x10000)
  | .build8 => 0x00000002#32
  | .build16 => 0x00000012#32
  | .build32 => 0x00000022#32
  | .compute8 ri ro => withReflection 0x00000003#32 ri ro
  | .compute16 ri ro => withReflection 0x00000013#32 ri ro
  | .compute32 ri ro => withReflection 0x00000023#32 ri ro
  | .crc8 ri ro => withReflection 0x00000004#32 ri ro
  | .crc16 ri ro => withReflection 0x00000014#32 ri ro
  | .crc32 ri ro => withReflection 0x00000024#32 ri ro

/-- The `match` column of R65. -/
def rowMatch : Instr → Word
  | .reflect _ => 0x00000001#32
  | .build8 => 0x00000002#32
  | .build16 => 0x00000012#32
  | .build32 => 0x00000022#32
  | .compute8 _ _ => 0x00000003#32
  | .compute16 _ _ => 0x00000013#32
  | .compute32 _ _ => 0x00000023#32
  | .crc8 _ _ => 0x00000004#32
  | .crc16 _ _ => 0x00000014#32
  | .crc32 _ _ => 0x00000024#32

/-- The `mask` column of R65. -/
def rowMask : Instr → Word
  | .reflect _ => 0xFFC0FFFF#32
  | .build8 => 0xFFFFFFFF#32
  | .build16 => 0xFFFFFFFF#32
  | .build32 => 0xFFFFFFFF#32
  | .compute8 _ _ => 0xFFFFFCFF#32
  | .compute16 _ _ => 0xFFFFFCFF#32
  | .compute32 _ _ => 0xFFFFFCFF#32
  | .crc8 _ _ => 0xFFFFFCFF#32
  | .crc16 _ _ => 0xFFFFFCFF#32
  | .crc32 _ _ => 0xFFFFFCFF#32

/-- The instruction word of `nbits` bits with value `w`: its bits above `nbits` are zero. -/
def tableWord (nbits w : Nat) : Word := BitVec.ofNat 32 (w % 2 ^ nbits)

/-- The command the decoder reads from the bits of an opcode-table row. Every command is one 32-bit word (R60),
so a longer row would be no command. -/
def decodeTableWord (nbits w : Nat) : Option Instr :=
  if nbits ≤ 32 then
    match decode (tableWord nbits w) with
    | .ok i => some i
    | .error _ => none
  else none

end Sys2Proof
end

