-- ==== Sys2Proof/Config.lean ====
section
/-! DEFINITION. The values the spec leaves open, as constants without a body: nothing can evaluate them or prove
one of them (92_eei_decisions.md, "Named open parameters"; 93_implementation_defined.md U6). -/

namespace Sys2Proof

/-- `TBLINIT` for TBL8: the contents reset leaves in the width-8 table memory (10_state.md R31, D18), by the number
of the draw and the entry's index. notes/assumptions/5.md. -/
opaque Config.tblInit8 : Nat → Byte → BitVec 8

/-- `TBLINIT` for TBL16 (10_state.md R31, D18). notes/assumptions/5.md. -/
opaque Config.tblInit16 : Nat → Byte → BitVec 16

/-- `TBLINIT` for TBL32 (10_state.md R31, D18). notes/assumptions/5.md. -/
opaque Config.tblInit32 : Nat → Byte → BitVec 32

/-- What a host read of an entry of an unbuilt table returns: "any 32-bit value", a fresh draw per read
(20_memory.md R44, D24), by the number of the draw. notes/assumptions/6.md. -/
opaque Config.unbuiltRead : Nat → Word

end Sys2Proof
end

