-- ==== Sys2Proof/Machine/State.lean ====
section
/-! DEFINITION. The state of the crickey CRC core and of the world it answers, as plain data (spec/10_state.md),
the reasons a step can stop, and the state after reset (R31). -/

namespace Sys2Proof.Machine

/-- DMEM (20_memory.md R46): the addresses that hold another byte than an unlisted address reads as, each with its
byte, addresses strictly rising (`Memory.wf` in Machine/Ops.lean). -/
abbrev Memory := List Host.Cell

/-- The six operand registers, the ones the host can write (10_state.md R11, 20_memory.md R41). -/
inductive OperandReg where
  | rval
  | poly
  | init
  | xorout
  | dptr
  | dlen
  deriving DecidableEq, Repr

/-- The four fault causes of the core (60_exceptions.md R131). -/
inductive FaultCause where
  /-- The word written to CMD matches no row of the opcode map. -/
  | illcmd
  /-- REFLECT with NBITS in 33..63. -/
  | nbits
  /-- COMPUTEW with no table of width W built since reset. -/
  | notable
  /-- A sequence that runs past the top of the address space. -/
  | range
  deriving DecidableEq, Repr

/-- What the world outside the core can do, one item at a time (10_state.md R10): the host's accesses to the
4 KiB register window, of any width at any offset (20_memory.md R41 to R45), reset between two accesses
(70_reset_and_hazards.md R151), and a store of the platform's own into DMEM (20_memory.md R46, parameter DMEM of
92_eei_decisions.md). The `data` of an access that is not 32 bits wide is never looked at. -/
inductive Transaction where
  /-- The host writes `bits` bits at a byte offset of the window. -/
  | write (offset : BitVec 12) (bits : Nat) (data : Word)
  /-- The host reads `bits` bits at a byte offset of the window. -/
  | read (offset : BitVec 12) (bits : Nat)
  /-- Reset is asserted. -/
  | reset
  /-- The platform stores a byte into DMEM. -/
  | store (addr : Word) (b : Byte)
  deriving DecidableEq, Repr

/-- The machine. The first group is the core's own state, every register of 10_state.md R11 and the three table
memories; CMD holds none (R21). The second is the core's surroundings: its data memory, the host's script
(30_encoding.md R68, 70_reset_and_hazards.md R159) and what can be seen from outside. `draws` is the model's. -/
structure State where
  /-- RVAL (R12). -/
  rval : Word
  /-- POLY (R13). -/
  poly : Word
  /-- INIT (R14). -/
  init : Word
  /-- XOROUT (R15). -/
  xorout : Word
  /-- DPTR (R16). -/
  dptr : Word
  /-- DLEN (R17). -/
  dlen : Word
  /-- RESULT (R20). -/
  result : Word
  /-- STATUS.ERR (R22). -/
  err : Bool
  /-- STATUS.CAUSE (R22). -/
  cause : BitVec 4
  /-- STATUS.TV8 (R22). -/
  tv8 : Bool
  /-- STATUS.TV16 (R22). -/
  tv16 : Bool
  /-- STATUS.TV32 (R22). -/
  tv32 : Bool
  /-- TPOLY8 (R23). -/
  tpoly8 : Word
  /-- TPOLY16 (R23). -/
  tpoly16 : Word
  /-- TPOLY32 (R23). -/
  tpoly32 : Word
  /-- TBL8 (R24). -/
  tbl8 : Table 8
  /-- TBL16 (R24). -/
  tbl16 : Table 16
  /-- TBL32 (R24). -/
  tbl32 : Table 32
  /-- DMEM (20_memory.md R46): outside the core, only read by it. -/
  mem : Memory
  /-- What the outside does from now on, the next transaction first (70_reset_and_hazards.md R159). -/
  script : List Transaction
  /-- The values the host's reads have returned, the latest first (20_memory.md R42, R44). -/
  reads : List Word
  /-- The addresses the core has read on its DMEM port, the latest first (20_memory.md R49). -/
  port : List Word
  /-- The number of the next free value (Config): the model's own counter, notes/assumptions/7.md. -/
  draws : Nat
  deriving DecidableEq, Repr

/-- Why the machine itself would stop. There is no such reason: the core's four faults are states in which it goes on
answering the host (60_exceptions.md R132, R133), every DMEM read answers (20_memory.md R47), and no table access can
go out of range (R50). Nothing raises a fault, which is the spec's own statement and so neither safe nor unsafe. -/
inductive Fault where
  deriving DecidableEq, Repr

/-- Why a step is refused. -/
inductive Refusal where
  /-- An instruction without a meaning: no arm of `exec` answers it (safe). -/
  | notModelled (mnemonic : String)
  /-- A host access that is not 32 bits wide, raised by Machine/Bus.lean (20_memory.md R45, D19: "a model refuses");
  safe, since the hardware may only do what changes no state. -/
  | accessWidth
  /-- A host access at an offset that is no multiple of 4, raised by Machine/Bus.lean (R45, R52); safe. -/
  | accessAlignment
  /-- A host access to an offset that holds nothing, 0x030 to 0x3FF, raised by Machine/Bus.lean (R45); safe. -/
  | accessHole
  /-- A host write to STATUS, RESULT, TPOLYW or a table entry, raised by Machine/Bus.lean (R45); safe. -/
  | writeReadOnly
  /-- A host read of CMD, raised by Machine/Bus.lean (R45); safe. -/
  | readWriteOnly
  deriving DecidableEq, Repr

/-- What reset leaves in TBL8: draw number `n` of TBLINIT (R31). -/
def unbuiltTable8 (n : Nat) : Table 8 := Vector.ofFn fun i => Config.tblInit8 n (BitVec.ofNat 8 i.val)
/-- What reset leaves in TBL16: draw number `n` of TBLINIT (R31). -/
def unbuiltTable16 (n : Nat) : Table 16 := Vector.ofFn fun i => Config.tblInit16 n (BitVec.ofNat 8 i.val)
/-- What reset leaves in TBL32: draw number `n` of TBLINIT (R31). -/
def unbuiltTable32 (n : Nat) : Table 32 := Vector.ofFn fun i => Config.tblInit32 n (BitVec.ofNat 8 i.val)

/-- The machine right after reset: every register at the value of R31 and R150, the table memories unspecified
(TBLINIT), an empty DMEM list, a host that asks nothing and has read nothing. -/
def State.reset : State where
  rval := 0#32
  poly := 0#32
  init := 0#32
  xorout := 0#32
  dptr := 0#32
  dlen := 0#32
  result := 0#32
  err := false
  cause := 0#4
  tv8 := false
  tv16 := false
  tv32 := false
  tpoly8 := 0#32
  tpoly16 := 0#32
  tpoly32 := 0#32
  tbl8 := unbuiltTable8 0
  tbl16 := unbuiltTable16 0
  tbl32 := unbuiltTable32 0
  mem := []
  script := []
  reads := []
  port := []
  draws := 1

end Sys2Proof.Machine
end

