-- ==== Sys2Proof/Machine/Ops.lean ====
section
/-! DEFINITION. The named operations over DMEM, the registers and the table memories, taking a fault and leaving
one by reset. Every change of a state goes through one of these. -/

namespace Sys2Proof.Machine

/-! ## The data memory -/

/-- What a DMEM address with no entry reads as. The spec leaves the contents to the platform (parameter DMEM);
zero is the model's choice, and with it a list can hold any contents at all (notes/assumptions/4.md). -/
def Memory.unlisted : Byte := 0#8

/-- The byte at an address. -/
def Memory.read : Memory → Nat → Byte
  | [], _ => Memory.unlisted
  | c :: rest, a => if c.1 = a then c.2 else Memory.read rest a

/-- The memory with one byte replaced, in canonical form again. -/
def Memory.write : Memory → Nat → Byte → Memory
  | [], a, b => if b = Memory.unlisted then [] else [(a, b)]
  | c :: rest, a, b =>
    if a < c.1 then (if b = Memory.unlisted then c :: rest else (a, b) :: c :: rest)
    else if a = c.1 then (if b = Memory.unlisted then rest else (a, b) :: rest)
    else c :: Memory.write rest a b

/-- The canonical form: addresses strictly rising and inside the 32-bit space (20_memory.md R40), no entry equal to
what an unlisted address reads as. -/
abbrev Memory.wf (m : Memory) : Prop :=
  m.Pairwise (fun c d => c.1 < d.1) ∧ ∀ c ∈ m, c.1 < 2 ^ 32 ∧ c.2 ≠ Memory.unlisted

/-- `MemRead(addr, 1)` (20_memory.md R47): the byte DMEM holds, and the state in which the port has shown the
address (R49). It always answers. -/
def memRead (s : State) (addr : Word) : Byte × State :=
  (Memory.read s.mem addr.toNat, { s with port := addr :: s.port })

/-- A store of the platform's own into DMEM, between two host transactions (92_eei_decisions.md, parameter DMEM).
The core never does this (R46). -/
def platformStore (addr : Word) (b : Byte) (s : State) : State :=
  { s with mem := Memory.write s.mem addr.toNat b }

/-! ## Registers and table memories -/

/-- An operand register (10_state.md R12 to R17). -/
def State.operand (s : State) : OperandReg → Word
  | .rval => s.rval
  | .poly => s.poly
  | .init => s.init
  | .xorout => s.xorout
  | .dptr => s.dptr
  | .dlen => s.dlen

/-- `reg <- v` on an operand register (20_memory.md R41). -/
def setOperand (r : OperandReg) (v : Word) (s : State) : State :=
  match r with
  | .rval => { s with rval := v }
  | .poly => { s with poly := v }
  | .init => { s with init := v }
  | .xorout => { s with xorout := v }
  | .dptr => { s with dptr := v }
  | .dlen => { s with dlen := v }

/-- STATUS.TVW (10_state.md R22). -/
def State.tv (s : State) : Width → Bool
  | .w8 => s.tv8
  | .w16 => s.tv16
  | .w32 => s.tv32

/-- TPOLYW (10_state.md R23). -/
def State.tpoly (s : State) : Width → Word
  | .w8 => s.tpoly8
  | .w16 => s.tpoly16
  | .w32 => s.tpoly32

/-- TBLW (10_state.md R24). -/
def State.tbl (s : State) : (w : Width) → Table w.bits
  | .w8 => s.tbl8
  | .w16 => s.tbl16
  | .w32 => s.tbl32

/-- `TBLW[i]`: an index is a byte, so no access can go out of range (20_memory.md R50). -/
def tableGet {W : Nat} (T : Table W) (i : Byte) : BitVec W := T[i.toNat]'(i.isLt)

/-- RESULT, written in full (10_state.md R20). -/
def setResult (v : Word) (s : State) : State := { s with result := v }

/-- What a completed build leaves: all of TBLW, TPOLYW and STATUS.TVW together (41_table_build.md R92, 20_memory.md
R57). -/
def setTable (w : Width) (T : Table w.bits) (p : Word) (s : State) : State :=
  match w, T with
  | .w8, T => { s with tbl8 := T, tpoly8 := p, tv8 := true }
  | .w16, T => { s with tbl16 := T, tpoly16 := p, tv16 := true }
  | .w32, T => { s with tbl32 := T, tpoly32 := p, tv32 := true }

/-- A read of the host's completes with the value `v` (20_memory.md R42, R44). -/
def returnToHost (v : Word) (s : State) : State := { s with reads := v :: s.reads }

/-- The host's script is now `rest`: how a transaction leaves it before it is performed. -/
def withScript (rest : List Transaction) (s : State) : State := { s with script := rest }

/-- The next free value has been drawn. -/
def takeDraw (s : State) : State := { s with draws := s.draws + 1 }

/-! ## Commands, faults and reset -/

/-- The code STATUS.CAUSE shows (60_exceptions.md R131). -/
def FaultCause.code : FaultCause → BitVec 4
  | .illcmd => 1#4
  | .nbits => 2#4
  | .notable => 3#4
  | .range => 4#4

/-- `raise Fault(c)` (60_exceptions.md R132): ERR and CAUSE are written, nothing else changes and nothing is saved.
Commands raise it only before their first effect, so the fault is precise. -/
def raiseFault (c : FaultCause) (s : State) : State := { s with err := true, cause := c.code }

/-- The first action of every command (30_encoding.md R66 step 1, 60_exceptions.md R133): while ERR = 1 it is ignored
and no state changes; otherwise `body` runs. -/
def command (body : State → State) (s : State) : State := if s.err then s else body s

/-- A word that encodes no command (30_encoding.md R66 step 2, R67): the fault ILLCMD, or nothing while ERR = 1. -/
def illegalCommand (s : State) : State := command (raiseFault .illcmd) s

/-- Reset (70_reset_and_hazards.md R150, 10_state.md R31), the only way out of a fault (60_exceptions.md R134): every
register zero, no table valid, the table memories unspecified again (a new draw of TBLINIT). What lies outside the
core stays: DMEM (R151), the host's script, what it has read, the port's record. -/
def resetCore (s : State) : State :=
  { s with
    rval := 0#32, poly := 0#32, init := 0#32, xorout := 0#32, dptr := 0#32, dlen := 0#32, result := 0#32,
    err := false, cause := 0#4, tv8 := false, tv16 := false, tv32 := false,
    tpoly8 := 0#32, tpoly16 := 0#32, tpoly32 := 0#32,
    tbl8 := unbuiltTable8 s.draws, tbl16 := unbuiltTable16 s.draws, tbl32 := unbuiltTable32 s.draws,
    draws := s.draws + 1 }

end Sys2Proof.Machine
end

