-- ==== Sys2Proof/Machine/Reflector.lean ====
section
/-! DEFINITION. The Reflector and the REFLECT command (spec/40_reflect.md). -/

namespace Sys2Proof.Machine

/-- The source's loop (40_reflect.md R80), with `m` bit positions left: the input's lowest bit goes to position m-1
of the result, and the input is shifted right. -/
def reflectLoop : Nat → Word → Word → Word
  | 0, _, r => r
  | m + 1, t, r => reflectLoop m (t >>> 1) (if t.getLsbD 0 then r ||| ((1#32) <<< m) else r)

/-- `reflect(v, n)`, for n in 0..32 (R80): the low n bits of v in reverse order, zeros above. Outside that domain no
rule applies it (R81 faults first, the engines use n = 8 and n = W). -/
def reflect (v : Word) (n : Nat) : Word := reflectLoop n v 0#32

/-- `reflect(v, W)[W-1:0]` on a value of W bits: how the engines use the one Reflector (R83). -/
def reflectBits {W : Nat} (v : BitVec W) : BitVec W := (reflect (v.setWidth 32) W).setWidth W

/-- REFLECT n (R81): fault NBITS if n > 32, otherwise RESULT <- reflect(RVAL, n). -/
def execReflect (n : Nat) (s : State) : Host.Outcome State Fault Refusal :=
  .next (command (fun s => if 32 < n then raiseFault .nbits s else setResult (reflect s.rval n) s) s)

end Sys2Proof.Machine
end

