-- ==== Sys2Proof/Machine/Operands.lean ====
section
/-! DEFINITION. The operand forms: the low W bits of a 32-bit register, a value widened into one, the byte addresses
of the sequence and the range they must stay in (spec/10_state.md R13 to R17, spec/20_memory.md R46, R48). -/

namespace Sys2Proof.Machine

/-- `reg[W-1:0]`: a command of width W uses the low W bits and ignores the rest (10_state.md R13 to R15). -/
def lowBits (w : Width) (v : Word) : BitVec w.bits := v.setWidth w.bits

/-- `zext_32`: a W-bit value in bits W-1:0 of a register, zeros above (10_state.md R20, R23, 20_memory.md R44). -/
def widen (w : Width) (v : BitVec w.bits) : Word := v.setWidth 32

/-- The address of byte k of the sequence, `DPTR + k` (20_memory.md R48). Where `pastTop` is false the sum does not
wrap for any k below DLEN. -/
def byteAddress (s : State) (k : Nat) : Word := s.dptr + BitVec.ofNat 32 k

/-- The RANGE condition: DLEN > 0 and DPTR + DLEN > 2^32, an unsigned sum that does not wrap (20_memory.md R48,
60_exceptions.md R131). With DLEN = 0 DPTR is not examined. -/
def pastTop (s : State) : Bool := decide (0 < s.dlen.toNat ∧ 2 ^ 32 < s.dptr.toNat + s.dlen.toNat)

end Sys2Proof.Machine
end

