-- ==== Sys2Proof/Machine/TableBuilder.lean ====
section
/-! DEFINITION. The Table Builders and the BUILD8, BUILD16 and BUILD32 commands (spec/41_table_build.md). Every
function is written once for all widths (00_scope.md R9); a W-bit register drops the bits shifted out of it by its
type (R7). -/

namespace Sys2Proof.Machine

/-- `step_W(r, p)` (R90): shift left by one, and XOR p in if the bit shifted out was 1. -/
def divStep {W : Nat} (r p : BitVec W) : BitVec W :=
  if r.getLsbD (W - 1) then (r <<< 1) ^^^ p else r <<< 1

/-- `n` division steps by p. -/
def divSteps {W : Nat} (p : BitVec W) : Nat → BitVec W → BitVec W
  | 0, r => r
  | n + 1, r => divSteps p n (divStep r p)

/-- `shl_W(zext_W(b), W-8)`: a byte at the most-significant byte of a W-bit register (R91). -/
def topByte (W : Nat) (b : Byte) : BitVec W := (b.setWidth W) <<< (W - 8)

/-- `entry_W(p, b)` (R91). -/
def entry {W : Nat} (p : BitVec W) (b : Byte) : BitVec W := divSteps p 8 (topByte W b)

/-- The 256 entries of `build_W(p)` (R92). -/
def buildTable {W : Nat} (p : BitVec W) : Table W := Vector.ofFn fun i => entry p (BitVec.ofNat 8 i.val)

/-- `build_W(POLY[W-1:0])` (R92): the whole table, TPOLYW and TVW in one step. -/
def build (w : Width) (s : State) : State :=
  setTable w (buildTable (lowBits w s.poly)) (widen w (lowBits w s.poly)) s

/-- BUILD8 (R93). -/
def execBuild8 (s : State) : Host.Outcome State Fault Refusal := .next (command (build .w8) s)

/-- BUILD16 (R94). -/
def execBuild16 (s : State) : Host.Outcome State Fault Refusal := .next (command (build .w16) s)

/-- BUILD32 (R95). -/
def execBuild32 (s : State) : Host.Outcome State Fault Refusal := .next (command (build .w32) s)

end Sys2Proof.Machine
end

