-- ==== Sys2Proof/Machine/Engine.lean ====
section
/-! DEFINITION. The CRC Engines and the COMPUTE8, COMPUTE16 and COMPUTE32 commands (spec/42_crc_compute.md). -/

namespace Sys2Proof.Machine

/-- Step 2a of R101: the data byte, reflected if RI = 1. -/
def inputByte (ri : Bool) (b : Byte) : Byte := if ri then reflectBits b else b

/-- The table step 2c of R101 on the register x that the byte has been XORed into: `shl_W(x, 8) xor T[x's top byte]`.
At W = 8 the shift leaves nothing and this is `T[x]`. -/
def tableStep {W : Nat} (T : Table W) (x : BitVec W) : BitVec W :=
  (x <<< 8) ^^^ tableGet T ((x >>> (W - 8)).setWidth 8)

/-- `fold_W(T, r, b, ri)` (R101). -/
def foldByte {W : Nat} (T : Table W) (ri : Bool) (r : BitVec W) (b : Byte) : BitVec W :=
  tableStep T (r ^^^ topByte W (inputByte ri b))

/-- `finish_W(r, ro, x)` (R102): reflection before the final XOR, the same at all widths; width 8 reflects and does
not complement (90_conflicts.md C1, D17). -/
def finish {W : Nat} (r : BitVec W) (ro : Bool) (x : BitVec W) : BitVec W :=
  (if ro then reflectBits r else r) ^^^ x

/-- `crc_W(T, bytes, init, x, ri, ro)` (R100), the engine as a function of the whole sequence. -/
def crc {W : Nat} (T : Table W) (bytes : List Byte) (init x : BitVec W) (ri ro : Bool) : BitVec W :=
  finish (bytes.foldl (foldByte T ri) init) ro x

/-- The command's loop `for k in 0 .. DLEN-1` (42_crc_compute.md section 3): `n` bytes left, the next one being byte
k; each is read from DMEM and folded in. -/
def engineLoop {W : Nat} (T : Table W) (ri : Bool) : Nat → Nat → BitVec W → State → BitVec W × State
  | 0, _, r, s => (r, s)
  | n + 1, k, r, s =>
    engineLoop T ri n (k + 1) (foldByte T ri r (memRead s (byteAddress s k)).1) (memRead s (byteAddress s k)).2

/-- The effect of `compute_W` once its checks have passed: from the initial value to RESULT, with table TBLW as it
stands (R105). -/
def runEngine (w : Width) (ri ro : Bool) (s : State) : State :=
  let x := engineLoop (s.tbl w) ri s.dlen.toNat 0 (lowBits w s.init) s
  setResult (widen w (finish x.1 ro (lowBits w s.xorout))) x.2

/-- `compute_W(word)` (42_crc_compute.md section 3): NOTABLE, then RANGE (60_exceptions.md R135), then the engine. -/
def compute (w : Width) (ri ro : Bool) (s : State) : State :=
  if s.tv w then (if pastTop s then raiseFault .range s else runEngine w ri ro s) else raiseFault .notable s

/-- COMPUTE8[.RI][.RO] (R107). -/
def execCompute8 (ri ro : Bool) (s : State) : Host.Outcome State Fault Refusal :=
  .next (command (compute .w8 ri ro) s)

/-- COMPUTE16[.RI][.RO] (R108). -/
def execCompute16 (ri ro : Bool) (s : State) : Host.Outcome State Fault Refusal :=
  .next (command (compute .w16 ri ro) s)

/-- COMPUTE32[.RI][.RO] (R109). -/
def execCompute32 (ri ro : Bool) (s : State) : Host.Outcome State Fault Refusal :=
  .next (command (compute .w32 ri ro) s)

end Sys2Proof.Machine
end

