-- ==== Sys2Proof/Machine/OneShot.lean ====
section
/-! DEFINITION. The one-shot commands CRC8, CRC16 and CRC32 (spec/43_crc_oneshot.md). -/

namespace Sys2Proof.Machine

/-- `crc_oneshot_W(word)` (R120): the RANGE check comes before the build, the build is always made, and the engine
uses the table just built. -/
def crcOneShot (w : Width) (ri ro : Bool) (s : State) : State :=
  if pastTop s then raiseFault .range s else runEngine w ri ro (build w s)

/-- CRC8[.RI][.RO] (R121). -/
def execCrc8 (ri ro : Bool) (s : State) : Host.Outcome State Fault Refusal :=
  .next (command (crcOneShot .w8 ri ro) s)

/-- CRC16[.RI][.RO] (R122). -/
def execCrc16 (ri ro : Bool) (s : State) : Host.Outcome State Fault Refusal :=
  .next (command (crcOneShot .w16 ri ro) s)

/-- CRC32[.RI][.RO] (R123). -/
def execCrc32 (ri ro : Bool) (s : State) : Host.Outcome State Fault Refusal :=
  .next (command (crcOneShot .w32 ri ro) s)

end Sys2Proof.Machine
end

