-- ==== Sys2Proof/Machine/Dispatch.lean ====
section
/-! DEFINITION. Each command's meaning (spec/30_encoding.md R65, R66). -/

namespace Sys2Proof.Machine

def exec (i : Instr) (s : State) : Host.Outcome State Fault Refusal :=
  match i with
  | .reflect n => Sys2Proof.Machine.execReflect n s
  | .build8 => Sys2Proof.Machine.execBuild8 s
  | .build16 => Sys2Proof.Machine.execBuild16 s
  | .build32 => Sys2Proof.Machine.execBuild32 s
  | .compute8 ri ro => Sys2Proof.Machine.execCompute8 ri ro s
  | .compute16 ri ro => Sys2Proof.Machine.execCompute16 ri ro s
  | .compute32 ri ro => Sys2Proof.Machine.execCompute32 ri ro s
  | .crc8 ri ro => Sys2Proof.Machine.execCrc8 ri ro s
  | .crc16 ri ro => Sys2Proof.Machine.execCrc16 ri ro s
  | .crc32 ri ro => Sys2Proof.Machine.execCrc32 ri ro s

end Sys2Proof.Machine
end

