-- ==== Sys2Proof/Machine/Flags.lean ====
section
/-! DEFINITION. The core's only flags are the fields of STATUS (spec/10_state.md R22, R28): no command's result sets
one. ERR and CAUSE are written by `raiseFault`, the TV bits by `setTable`, and all of them cleared by `resetCore`; this
file puts the word together that the host reads. -/

namespace Sys2Proof.Machine

/-- STATUS as one word (R22): ERR in bit 0, CAUSE in bits 7:4, TV8, TV16 and TV32 in bits 8, 9 and 10; bits 3:1 and
31:11 read as 0 because nothing is stored there. -/
def State.status (s : State) : Word :=
  0#21 ++ BitVec.ofBool s.tv32 ++ BitVec.ofBool s.tv16 ++ BitVec.ofBool s.tv8 ++ s.cause ++ 0#3 ++ BitVec.ofBool s.err

end Sys2Proof.Machine
end

