-- ==== Sys2Proof/Machine/Bus.lean ====
section
/-! DEFINITION. The host's side of the core: the register window, what each access to it does, and one transaction
of the script (spec/10_state.md R11, spec/20_memory.md R40 to R45, R52, R54). -/

namespace Sys2Proof.Machine

/-- What stands at an offset of the window (10_state.md R11). -/
inductive Location where
  | cmd
  | status
  | result
  | operand (r : OperandReg)
  | tpoly (w : Width)
  | entry (w : Width) (i : Byte)
  deriving DecidableEq, Repr

/-- The layout of the window at word-aligned offsets (10_state.md R11, 20_memory.md R54): registers at 0x000 to
0x02C, a hole at 0x030 to 0x3FF, then the three tables, entry i of a table at 4 * i from its start. -/
def locate (offset : BitVec 12) : Option Location :=
  match (offset.extractLsb' 10 2).toNat with
  | 0 =>
    match offset.toNat with
    | 0x000 => some .cmd
    | 0x004 => some .status
    | 0x008 => some .result
    | 0x00C => some (.operand .rval)
    | 0x010 => some (.operand .poly)
    | 0x014 => some (.operand .init)
    | 0x018 => some (.operand .xorout)
    | 0x01C => some (.operand .dptr)
    | 0x020 => some (.operand .dlen)
    | 0x024 => some (.tpoly .w8)
    | 0x028 => some (.tpoly .w16)
    | 0x02C => some (.tpoly .w32)
    | _ => none
  | 1 => some (.entry .w8 (offset.extractLsb' 2 8))
  | 2 => some (.entry .w16 (offset.extractLsb' 2 8))
  | _ => some (.entry .w32 (offset.extractLsb' 2 8))

/-- The form every access must have: 32 bits at a multiple of 4 (R45, R52); otherwise the refusal. Only what it then
finds at the offset decides what it does. -/
def access (offset : BitVec 12) (bits : Nat) (act : Location → Host.Outcome State Fault Refusal) :
    Host.Outcome State Fault Refusal :=
  if bits ≠ 32 then .refused .accessWidth
  else if offset.toNat % 4 ≠ 0 then .refused .accessAlignment
  else
    match locate offset with
    | none => .refused .accessHole
    | some l => act l

/-- `CMD word` (R43, 30_encoding.md R66): the word's command, complete when the write is; an illegal word is the
fault ILLCMD. While ERR = 1 both do nothing (`command`), so it is of no consequence that the word was decoded. -/
def commandWrite (word : Word) (s : State) : Host.Outcome State Fault Refusal :=
  match decode word with
  | .ok i => exec i s
  | .error _ => .next (illegalCommand s)

/-- A host write: CMD, an operand register (R41), or no meaning (R45). -/
def hostWrite (data : Word) (s : State) : Location → Host.Outcome State Fault Refusal
  | .cmd => commandWrite data s
  | .operand r => .next (setOperand r data s)
  | .status => .refused .writeReadOnly
  | .result => .refused .writeReadOnly
  | .tpoly _ => .refused .writeReadOnly
  | .entry _ _ => .refused .writeReadOnly

/-- A host read of a table entry (R44): the entry, zero-extended; while TVW = 0 a free value, drawn anew. -/
def readEntry (w : Width) (i : Byte) (s : State) : State :=
  if s.tv w then returnToHost (widen w (tableGet (s.tbl w) i)) s
  else takeDraw (returnToHost (Config.unbuiltRead s.draws) s)

/-- A host read: a register's value (R42), a table entry (R44); CMD has none (R45). -/
def hostRead (s : State) : Location → Host.Outcome State Fault Refusal
  | .cmd => .refused .readWriteOnly
  | .status => .next (returnToHost s.status s)
  | .result => .next (returnToHost s.result s)
  | .operand r => .next (returnToHost (s.operand r) s)
  | .tpoly w => .next (returnToHost (s.tpoly w) s)
  | .entry w i => .next (readEntry w i s)

/-- One transaction, from its beginning to its end (R56): nothing of it is left over for the next. -/
def perform (t : Transaction) (s : State) : Host.Outcome State Fault Refusal :=
  match t with
  | .write offset bits data => access offset bits (hostWrite data s)
  | .read offset bits => access offset bits (hostRead s)
  | .reset => .next (resetCore s)
  | .store addr b => .next (platformStore addr b s)

/-- The next transaction of the script leaves it and is performed. With an empty script the core is idle and nothing
changes (10_state.md R10, 60_exceptions.md R141). -/
def nextTransaction (s : State) : Host.Outcome State Fault Refusal :=
  match s.script with
  | [] => .next s
  | t :: rest => perform t (withScript rest s)

/-- The transaction that writes a command word to CMD (R43). -/
def cmdTransaction (word : Word) : Transaction := .write 0x000#12 32 word

end Sys2Proof.Machine
end

