-- ==== Sys2Proof/Machine/Step.lean ====
section
/-! DEFINITION. One step of the machine: one transaction of the outside world, complete with all it makes the core do
(spec/10_state.md R10, spec/20_memory.md R56). -/

namespace Sys2Proof.Machine

/-- One step. -/
def step (s : State) : Host.Outcome State Fault Refusal := nextTransaction s

/-- The state in which the host's next transaction writes the given command word to CMD: the core fetches nothing,
and the next command is what the host writes next (10_state.md R27). -/
def State.withFetchWord (s : State) (nbits w : Nat) : State :=
  { s with script := cmdTransaction (tableWord nbits w) :: s.script }

end Sys2Proof.Machine
end

