-- ==== Sys2Proof/Machine/Bitwise.lean ====
section
/-! DEFINITION. The direct bit-by-bit computation the table-driven engine is measured against (spec/42_crc_compute.md
R110). The core does not contain it; claims are stated with it. -/

namespace Sys2Proof.Machine

/-- One byte of `bitwise_W`: into the top byte, then eight division steps. -/
def bitwiseByte {W : Nat} (p : BitVec W) (ri : Bool) (r : BitVec W) (b : Byte) : BitVec W :=
  divSteps p 8 (r ^^^ topByte W (inputByte ri b))

/-- `bitwise_W(p, bytes, init, x, ri, ro)` (R110). -/
def bitwise {W : Nat} (p : BitVec W) (bytes : List Byte) (init x : BitVec W) (ri ro : Bool) : BitVec W :=
  finish (bytes.foldl (bitwiseByte p ri) init) ro x

end Sys2Proof.Machine
end

