-- ==== Sys2Proof/Safety.lean ====
section
/-! DEFINITION. What counts as a good state and a good run, and the words claims about the core are stated in. -/

namespace Sys2Proof.Machine

/-- A state in which the core has not faulted: a run is good when it ends in one (70_reset_and_hazards.md R159,
60_exceptions.md R134). -/
abbrev State.Good (s : State) : Prop := s.err = false

/-- The sequence a COMPUTEW or CRCW processes: the DLEN bytes of DMEM from DPTR upward (20_memory.md R46). -/
def sequenceBytes (s : State) : List Byte :=
  (List.range s.dlen.toNat).map fun k => Memory.read s.mem (s.dptr.toNat + k)

/-- The addresses of that sequence, in increasing order (20_memory.md R46, R49). -/
def sequenceAddresses (s : State) : List Word :=
  (List.range s.dlen.toNat).map fun k => BitVec.ofNat 32 (s.dptr.toNat + k)

/-- The sequence lies inside the address space: the RANGE check passes (20_memory.md R48). -/
abbrev InRange (s : State) : Prop := s.dlen.toNat = 0 ∨ s.dptr.toNat + s.dlen.toNat ≤ 2 ^ 32

/-- STATUS.ERR and STATUS.CAUSE agree: the code is 0 without a fault and one of 1 to 4 with one (10_state.md R22,
60_exceptions.md R131). -/
abbrev CauseLegal (s : State) : Prop :=
  (s.err = false → s.cause = 0#4) ∧ (s.err = true → 1 ≤ s.cause.toNat ∧ s.cause.toNat ≤ 4)

/-- All 256 entries are the entries of the polynomial p (41_table_build.md R91, 42_crc_compute.md R110). -/
abbrev TableHolds {W : Nat} (T : Table W) (p : BitVec W) : Prop := ∀ i : Byte, tableGet T i = entry p i

/-- TPOLYW is a W-bit value, and a valid table is the table of TPOLYW (10_state.md R23, 20_memory.md R57). -/
def TableBound (w : Width) (s : State) : Prop :=
  (s.tpoly w).toNat < 2 ^ w.bits ∧
    (s.tv w = true → TableHolds (s.tbl w) (lowBits w (s.tpoly w)))

/-- The command writes table W (10_state.md R26): BUILDW, or CRCW in its build phase. -/
def buildsTable (w : Width) (i : Instr) : Prop := i = buildOf w ∨ ∃ ri ro, i = crcOf ri ro w

/-- The command reads DMEM (20_memory.md R49): COMPUTEW and CRCW; REFLECT and BUILDW never do. -/
def readsSequence : Instr → Bool
  | .reflect _ => false
  | .build8 => false
  | .build16 => false
  | .build32 => false
  | .compute8 _ _ => true
  | .compute16 _ _ => true
  | .compute32 _ _ => true
  | .crc8 _ _ => true
  | .crc16 _ _ => true
  | .crc32 _ _ => true

/-- The words that encode no command, as 30_encoding.md R67 lists them, by the numbers in the fields of R61. -/
def IllegalWord (word : Word) : Prop :=
  let op := word.toNat % 16
  let wsel := word.toNat / 2 ^ 4 % 4
  let ri := word.toNat / 2 ^ 8 % 2
  let ro := word.toNat / 2 ^ 9 % 2
  let nbits := word.toNat / 2 ^ 16 % 64
  op = 0 ∨ 5 ≤ op ∨ wsel = 3 ∨
    word.toNat / 2 ^ 6 % 4 ≠ 0 ∨ word.toNat / 2 ^ 10 % 64 ≠ 0 ∨ word.toNat / 2 ^ 22 ≠ 0 ∨
    (op = 1 ∧ (wsel ≠ 0 ∨ ri ≠ 0 ∨ ro ≠ 0)) ∨
    (op = 2 ∧ (ri ≠ 0 ∨ ro ≠ 0 ∨ nbits ≠ 0)) ∨
    ((op = 3 ∨ op = 4) ∧ nbits ≠ 0)

/-- The offsets of the operand registers (10_state.md R11). -/
def operandOffset : OperandReg → BitVec 12
  | .rval => 0x00C#12
  | .poly => 0x010#12
  | .init => 0x014#12
  | .xorout => 0x018#12
  | .dptr => 0x01C#12
  | .dlen => 0x020#12

/-- The eleven registers the host can read, each with its offset and its value (10_state.md R11, 20_memory.md R42). -/
def readableRegisters (s : State) : List (BitVec 12 × Word) :=
  [(0x004#12, s.status), (0x008#12, s.result), (0x00C#12, s.rval), (0x010#12, s.poly), (0x014#12, s.init),
   (0x018#12, s.xorout), (0x01C#12, s.dptr), (0x020#12, s.dlen), (0x024#12, s.tpoly8), (0x028#12, s.tpoly16),
   (0x02C#12, s.tpoly32)]

/-- The offset of entry i of table W (20_memory.md R44). -/
def entryOffset (w : Width) (i : Byte) : BitVec 12 :=
  match w with
  | .w8 => BitVec.ofNat 12 (0x400 + 4 * i.toNat)
  | .w16 => BitVec.ofNat 12 (0x800 + 4 * i.toNat)
  | .w32 => BitVec.ofNat 12 (0xC00 + 4 * i.toNat)

/-- What holds in every state a run can reach. -/
structure Inv (s : State) : Prop where
  memory : Memory.wf s.mem
  fault : CauseLegal s
  table8 : TableBound .w8 s
  table16 : TableBound .w16 s
  table32 : TableBound .w32 s

end Sys2Proof.Machine
end

