-- ==== Sys2Proof/Certificates/Slice0/Obligations.lean ====
section
/-! DEFINITION. The statements for the provers, from the numbered rules of spec/. Each docstring names the rule. -/

open Sys2Proof Sys2Proof.Machine

/-! ## The command word -/

/-- Words written out from the opcode map and the examples of 30_encoding.md R65 decode to the commands they select. -/
def Obligations.ExampleWordsDecodeToTheirCommands : Prop :=
  decode 0x00080001#32 = .ok (.reflect 8) ∧ decode 0x00200001#32 = .ok (.reflect 32) ∧
  decode 0x00000001#32 = .ok (.reflect 0) ∧ decode 0x00210001#32 = .ok (.reflect 33) ∧
  decode 0x00000002#32 = .ok .build8 ∧ decode 0x00000012#32 = .ok .build16 ∧ decode 0x00000022#32 = .ok .build32 ∧
  decode 0x00000103#32 = .ok (.compute8 true false) ∧ decode 0x00000013#32 = .ok (.compute16 false false) ∧
  decode 0x00000213#32 = .ok (.compute16 false true) ∧ decode 0x00000323#32 = .ok (.compute32 true true) ∧
  decode 0x00000304#32 = .ok (.crc8 true true) ∧ decode 0x00000014#32 = .ok (.crc16 false false) ∧
  decode 0x00000324#32 = .ok (.crc32 true true)

/-- Decoding the word of a command gives the command back, for every operand its fields admit (R61, R64, R65). -/
def Obligations.DecodeOfEncodeIsTheCommand : Prop :=
  ∀ i : Instr, i.wellFormed = true → decode (encode i) = .ok i

/-- Every word that decodes is the word of the command it decodes to, and that command is well formed: no two words
select the same command with the same operands (R65, R66). -/
def Obligations.EncodeOfDecodeIsTheWord : Prop :=
  ∀ (word : Word) (i : Instr), decode word = .ok i → encode i = word ∧ i.wellFormed = true

/-- The opcode map of R65, row by row: a word is a row's command exactly when `(word and mask) = match`, with the
operands that stand in its free fields. -/
def Obligations.DecodeIsTheOpcodeMap : Prop :=
  ∀ word : Word,
    (word &&& 0xFFC0FFFF#32 = 0x00000001#32 ↔ decode word = .ok (.reflect (word.toNat / 2 ^ 16 % 64))) ∧
    (word &&& 0xFFFFFFFF#32 = 0x00000002#32 ↔ decode word = .ok .build8) ∧
    (word &&& 0xFFFFFFFF#32 = 0x00000012#32 ↔ decode word = .ok .build16) ∧
    (word &&& 0xFFFFFFFF#32 = 0x00000022#32 ↔ decode word = .ok .build32) ∧
    (word &&& 0xFFFFFCFF#32 = 0x00000003#32 ↔ decode word = .ok (.compute8 (word.getLsbD 8) (word.getLsbD 9))) ∧
    (word &&& 0xFFFFFCFF#32 = 0x00000013#32 ↔ decode word = .ok (.compute16 (word.getLsbD 8) (word.getLsbD 9))) ∧
    (word &&& 0xFFFFFCFF#32 = 0x00000023#32 ↔ decode word = .ok (.compute32 (word.getLsbD 8) (word.getLsbD 9))) ∧
    (word &&& 0xFFFFFCFF#32 = 0x00000004#32 ↔ decode word = .ok (.crc8 (word.getLsbD 8) (word.getLsbD 9))) ∧
    (word &&& 0xFFFFFCFF#32 = 0x00000014#32 ↔ decode word = .ok (.crc16 (word.getLsbD 8) (word.getLsbD 9))) ∧
    (word &&& 0xFFFFFCFF#32 = 0x00000024#32 ↔ decode word = .ok (.crc32 (word.getLsbD 8) (word.getLsbD 9)))

/-- R67: the illegal words are exactly those it lists, and writing one to CMD raises the fault ILLCMD, which changes
ERR and CAUSE alone. -/
def Obligations.IllegalWordsRaiseIllcmd : Prop :=
  (∀ word : Word, (∃ e, decode word = .error e) ↔ IllegalWord word) ∧
  ∀ (s : State) (rest : List Transaction) (word : Word), s.script = .write 0x000#12 32 word :: rest → s.err = false →
    IllegalWord word → step s = .next { s with script := rest, err := true, cause := 1#4 }

/-! ## The step and the host's transactions -/

/-- R43, R66: a 32-bit write of a command's word to offset 0x000 runs exactly that command, on the state from whose
script the transaction has been taken. Holding the script in the state is the model's choice (log entry 1). -/
def Obligations.CommandWriteRunsTheDecodedCommand : Prop :=
  ∀ (s : State) (rest : List Transaction) (word : Word) (i : Instr),
    s.script = .write 0x000#12 32 word :: rest → decode word = .ok i → step s = exec i { s with script := rest }

/-- R160, R8: a CMD write always completes, whatever the word and the state, and so does every command. -/
def Obligations.EveryCommandCompletes : Prop :=
  (∀ (s : State) (rest : List Transaction) (word : Word), s.script = .write 0x000#12 32 word :: rest →
    ∃ t, step s = .next t) ∧
  ∀ (i : Instr) (s : State), ∃ t, exec i s = .next t

/-- R41: `WR reg, v` sets that operand register and nothing else, in every state of the core. -/
def Obligations.HostWriteSetsTheOperandRegister : Prop :=
  ∀ (s : State) (rest : List Transaction) (v : Word),
    (s.script = .write 0x00C#12 32 v :: rest → step s = .next { s with script := rest, rval := v }) ∧
    (s.script = .write 0x010#12 32 v :: rest → step s = .next { s with script := rest, poly := v }) ∧
    (s.script = .write 0x014#12 32 v :: rest → step s = .next { s with script := rest, init := v }) ∧
    (s.script = .write 0x018#12 32 v :: rest → step s = .next { s with script := rest, xorout := v }) ∧
    (s.script = .write 0x01C#12 32 v :: rest → step s = .next { s with script := rest, dptr := v }) ∧
    (s.script = .write 0x020#12 32 v :: rest → step s = .next { s with script := rest, dlen := v })

/-- R42: `RD reg` returns the register's value and changes nothing, in every state of the core. -/
def Obligations.HostReadReturnsTheRegister : Prop :=
  ∀ (s : State) (rest : List Transaction) (offset : BitVec 12) (v : Word),
    (offset, v) ∈ readableRegisters s → s.script = .read offset 32 :: rest →
      step s = .next { s with script := rest, reads := v :: s.reads }

/-- R44: `RD TBLW[i]` returns the entry, zero-extended, if TVW = 1; otherwise it completes too, with some value, and
changes nothing but the model's count of free values. -/
def Obligations.HostReadReturnsTheTableEntry : Prop :=
  ∀ (s : State) (rest : List Transaction) (w : Width) (i : Byte), s.script = .read (entryOffset w i) 32 :: rest →
    (s.tv w = true →
      step s = .next { s with script := rest, reads := (tableGet (s.tbl w) i).setWidth 32 :: s.reads }) ∧
    (s.tv w = false →
      ∃ v, step s = .next { s with script := rest, reads := v :: s.reads, draws := s.draws + 1 })

/-- R45: every other access of the host has no step: another width than 32 bits, a misaligned offset, the hole, a write
to a read-only location, a read of CMD. -/
def Obligations.AccessWithoutMeaningIsRefused : Prop :=
  ∀ (s : State) (rest : List Transaction) (offset : BitVec 12) (bits : Nat),
    (∀ data, s.script = .write offset bits data :: rest →
      ¬ (bits = 32 ∧ (offset = 0x000#12 ∨ ∃ r, offset = operandOffset r)) → ∃ r, step s = .refused r) ∧
    (s.script = .read offset bits :: rest →
      ¬ (bits = 32 ∧ offset.toNat % 4 = 0 ∧ (0x004 ≤ offset.toNat ∧ offset.toNat ≤ 0x02C ∨ 0x400 ≤ offset.toNat)) →
      ∃ r, step s = .refused r)

/-- R22: the fields of the STATUS word, and the bits that read as 0. -/
def Obligations.StatusWordHoldsItsFields : Prop :=
  ∀ s : State,
    s.status.getLsbD 0 = s.err ∧ s.status.extractLsb' 1 3 = 0#3 ∧ s.status.extractLsb' 4 4 = s.cause ∧
    s.status.getLsbD 8 = s.tv8 ∧ s.status.getLsbD 9 = s.tv16 ∧ s.status.getLsbD 10 = s.tv32 ∧
    s.status.extractLsb' 11 21 = 0#21

/-- The core is idle while the host asks nothing (R10, R141). That a step of the model then changes nothing is the
model's choice (log entry 2). -/
def Obligations.IdleStepChangesNothing : Prop :=
  ∀ s : State, s.script = [] → step s = .next s

/-- The platform's own store between two transactions: the byte reads back, every other byte and all of the core stay.
That the model has this transaction is its choice (log entry 9; parameter DMEM of 92_eei_decisions.md). -/
def Obligations.PlatformStoreChangesOneByte : Prop :=
  ∀ (s : State) (rest : List Transaction) (a : Word) (b : Byte), Memory.wf s.mem → s.script = .store a b :: rest →
    ∃ m, step s = .next { s with script := rest, mem := m } ∧ Memory.read m a.toNat = b ∧
      ∀ a' : Nat, a' ≠ a.toNat → Memory.read m a' = Memory.read s.mem a'

/-! ## Reset -/

/-- R31: the values after reset. The entries of the tables are unspecified, and nothing is stated of them. -/
def Obligations.ResetValues : Prop :=
  State.reset.status = 0#32 ∧ State.reset.result = 0#32 ∧
  State.reset.rval = 0#32 ∧ State.reset.poly = 0#32 ∧ State.reset.init = 0#32 ∧ State.reset.xorout = 0#32 ∧
  State.reset.dptr = 0#32 ∧ State.reset.dlen = 0#32 ∧
  State.reset.tpoly8 = 0#32 ∧ State.reset.tpoly16 = 0#32 ∧ State.reset.tpoly32 = 0#32

/-- R150, R151, R31: a reset between two transactions gives every register its reset value from any state, a faulted
one among them, and leaves DMEM alone. -/
def Obligations.ResetTransactionRestoresTheResetValues : Prop :=
  ∀ (s : State) (rest : List Transaction), s.script = .reset :: rest →
    ∃ t, step s = .next t ∧ t.status = 0#32 ∧ t.result = 0#32 ∧
      t.rval = 0#32 ∧ t.poly = 0#32 ∧ t.init = 0#32 ∧ t.xorout = 0#32 ∧ t.dptr = 0#32 ∧ t.dlen = 0#32 ∧
      t.tpoly8 = 0#32 ∧ t.tpoly16 = 0#32 ∧ t.tpoly32 = 0#32 ∧
      t.mem = s.mem ∧ t.script = rest ∧ t.reads = s.reads ∧ t.port = s.port

/-! ## Faults -/

/-- R133: while ERR = 1 every CMD write is ignored, whatever its word, and so is every command; operand writes and all
reads go on working. What the rule does not say is the model's choice: that a read is recorded (log entry 3), and that a
read of an unbuilt entry draws a free value, by which the count of draws moves by one (log entries 6 and 7). -/
def Obligations.FaultedCoreIgnoresCommandsAndAnswersTheHost : Prop :=
  ∀ (s : State) (rest : List Transaction), s.err = true →
    (∀ i, exec i s = .next s) ∧
    (∀ word, s.script = .write 0x000#12 32 word :: rest → step s = .next { s with script := rest }) ∧
    (∀ r v, s.script = .write (operandOffset r) 32 v :: rest →
      step s = .next (setOperand r v { s with script := rest })) ∧
    (∀ offset v, (offset, v) ∈ readableRegisters s → s.script = .read offset 32 :: rest →
      step s = .next { s with script := rest, reads := v :: s.reads }) ∧
    (∀ w i, s.script = .read (entryOffset w i) 32 :: rest → s.tv w = true →
      step s = .next { s with script := rest, reads := (tableGet (s.tbl w) i).setWidth 32 :: s.reads }) ∧
    (∀ w i, s.script = .read (entryOffset w i) 32 :: rest → s.tv w = false →
      ∃ v, step s = .next { s with script := rest, reads := v :: s.reads, draws := s.draws + 1 })

/-- R132: a fault changes ERR and CAUSE and nothing else: no register, no table, no TPOLYW, no TVW, no DMEM read; and the
CMD write that raised it completes. CAUSE is the code of one of the four faults. -/
def Obligations.FaultsArePrecise : Prop :=
  (∀ (i : Instr) (s t : State), exec i s = .next t → s.err = false → t.err = true →
    t = { s with err := true, cause := t.cause } ∧ (t.cause = 2#4 ∨ t.cause = 3#4 ∨ t.cause = 4#4)) ∧
  ∀ (s : State) (rest : List Transaction) (word : Word), s.script = .write 0x000#12 32 word :: rest →
    s.err = false →
    ∃ t, step s = .next t ∧ (t.err = true →
      t = { s with script := rest, err := true, cause := t.cause } ∧
      (t.cause = 1#4 ∨ t.cause = 2#4 ∨ t.cause = 3#4 ∨ t.cause = 4#4))

/-- R134: ERR and CAUSE, once a fault has set them, change by reset alone, which also invalidates the tables. -/
def Obligations.FaultStaysUntilReset : Prop :=
  ∀ s t : State, step s = .next t → s.err = true →
    ((∀ rest, s.script ≠ .reset :: rest) → t.err = true ∧ t.cause = s.cause) ∧
    (∀ rest, s.script = .reset :: rest →
      t.err = false ∧ t.cause = 0#4 ∧ t.tv8 = false ∧ t.tv16 = false ∧ t.tv32 = false)

/-- R135: the order of the checks. ERR before everything; an illegal word before the command's own checks; NOTABLE
before RANGE, whatever DPTR and DLEN hold; the word 0x00210011 is ILLCMD and not NBITS. Of the NBITS clause the rule
speaks for n in 33 to 63; for n of 64 and more, which no word encodes (R130), it is the model's choice (log entry 15). -/
def Obligations.ChecksAreMadeInOrder : Prop :=
  (∀ (s : State) (rest : List Transaction) (word : Word), s.script = .write 0x000#12 32 word :: rest →
    (s.err = true → step s = .next { s with script := rest }) ∧
    (s.err = false → (∃ e, decode word = .error e) →
      step s = .next { s with script := rest, err := true, cause := 1#4 })) ∧
  (∀ (s : State) (n : Nat), s.err = false → 32 < n →
    exec (.reflect n) s = .next { s with err := true, cause := 2#4 }) ∧
  (∀ (s : State) (ri ro : Bool), s.err = false →
    (s.tv8 = false → exec (.compute8 ri ro) s = .next { s with err := true, cause := 3#4 }) ∧
    (s.tv16 = false → exec (.compute16 ri ro) s = .next { s with err := true, cause := 3#4 }) ∧
    (s.tv32 = false → exec (.compute32 ri ro) s = .next { s with err := true, cause := 3#4 }) ∧
    (¬ InRange s → s.tv8 = true → exec (.compute8 ri ro) s = .next { s with err := true, cause := 4#4 }) ∧
    (¬ InRange s → s.tv16 = true → exec (.compute16 ri ro) s = .next { s with err := true, cause := 4#4 }) ∧
    (¬ InRange s → s.tv32 = true → exec (.compute32 ri ro) s = .next { s with err := true, cause := 4#4 }) ∧
    (¬ InRange s → exec (.crc8 ri ro) s = .next { s with err := true, cause := 4#4 }) ∧
    (¬ InRange s → exec (.crc16 ri ro) s = .next { s with err := true, cause := 4#4 }) ∧
    (¬ InRange s → exec (.crc32 ri ro) s = .next { s with err := true, cause := 4#4 })) ∧
  (∃ e, decode 0x00210011#32 = .error e)

/-! ## The Reflector -/

/-- R80: the source's loop is the function R80 defines bit by bit. -/
def Obligations.ReflectReversesTheLowBits : Prop :=
  ∀ (v : Word) (n : Nat), n ≤ 32 → ∀ j < 32,
    (reflect v n).getLsbD j = if j < n then v.getLsbD (n - 1 - j) else false

/-- The laws (a) to (e) of 40_reflect.md section 1; (b) to (e) are the spec's own inference ("derived: from rule R80"
in its text). -/
def Obligations.ReflectObeysItsLaws : Prop :=
  ∀ n ≤ 32,
    (∀ x : Word, x.toNat < 2 ^ n → reflect (reflect x n) n = x) ∧
    (∀ v : Word, reflect v n = reflect (v &&& BitVec.ofNat 32 (2 ^ n - 1)) n ∧ (reflect v n).toNat < 2 ^ n) ∧
    (∀ v : Word, reflect (reflect v n) n = v &&& BitVec.ofNat 32 (2 ^ n - 1)) ∧
    (∀ a b : Word, reflect (a ^^^ b) n = reflect a n ^^^ reflect b n) ∧
    (∀ v : Word, reflect v 1 = v &&& 1#32 ∧ reflect v 0 = 0#32)

/-- R81: REFLECT n, whole: its word, the ignored command, the fault NBITS, and the reflection of RVAL into RESULT with
everything else unchanged. The rule's fault is for n in 33 to 63; for n of 64 and more, which no word encodes (R130), the
fault is the model's choice (log entry 15). -/
def Obligations.ReflectWritesTheReflectionOfRval : Prop :=
  (∀ n < 64, decode (0x00000001#32 ||| BitVec.ofNat 32 (n * 0x10000)) = .ok (.reflect n)) ∧
  ∀ (s : State) (n : Nat),
    (s.err = true → exec (.reflect n) s = .next s) ∧
    (s.err = false → 32 < n → exec (.reflect n) s = .next { s with err := true, cause := 2#4 }) ∧
    (s.err = false → n ≤ 32 → ∃ r : Word, exec (.reflect n) s = .next { s with result := r } ∧
      ∀ j < 32, r.getLsbD j = if j < n then s.rval.getLsbD (n - 1 - j) else false)

/-! ## The Table Builders -/

/-- The laws (b) to (e) of 41_table_build.md section 1 (there "derived: from rules R90 and R91"), at the three
widths. -/
def Obligations.TableEntriesObeyTheirLaws : Prop :=
  ∀ w : Width,
    (∀ p : BitVec w.bits, entry p 0#8 = 0 ∧ entry p 1#8 = p) ∧
    (∀ (p : BitVec w.bits) (a b : Byte), entry p (a ^^^ b) = entry p a ^^^ entry p b) ∧
    (∀ b : Byte, entry (0 : BitVec w.bits) b = 0)

/-- The law (f) of 41_table_build.md section 1 (there "derived"): at width 8 an odd polynomial's entries are pairwise
distinct. -/
def Obligations.OddPolynomialsGiveDistinctEntries : Prop :=
  ∀ p : BitVec 8, p.getLsbD 0 = true → ∀ a b : Byte, entry p a = entry p b → a = b

/-- R93: BUILD8, whole: its word, the ignored command, and the table, TPOLYW and TVW with everything else unchanged. -/
def Obligations.Build8WritesTheTableOfPoly : Prop :=
  decode 0x00000002#32 = .ok .build8 ∧
  ∀ s : State,
    (s.err = true → exec .build8 s = .next s) ∧
    (s.err = false → ∃ T : Table 8,
      exec .build8 s = .next { s with tbl8 := T, tpoly8 := (s.poly.setWidth 8).setWidth 32, tv8 := true } ∧
      ∀ i : Byte, tableGet T i = entry (s.poly.setWidth 8) i)

/-- R94: BUILD16, whole: its word, the ignored command, and the table, TPOLYW and TVW with everything else unchanged. -/
def Obligations.Build16WritesTheTableOfPoly : Prop :=
  decode 0x00000012#32 = .ok .build16 ∧
  ∀ s : State,
    (s.err = true → exec .build16 s = .next s) ∧
    (s.err = false → ∃ T : Table 16,
      exec .build16 s = .next { s with tbl16 := T, tpoly16 := (s.poly.setWidth 16).setWidth 32, tv16 := true } ∧
      ∀ i : Byte, tableGet T i = entry (s.poly.setWidth 16) i)

/-- R95: BUILD32, whole: its word, the ignored command, and the table, TPOLYW and TVW with everything else unchanged. -/
def Obligations.Build32WritesTheTableOfPoly : Prop :=
  decode 0x00000022#32 = .ok .build32 ∧
  ∀ s : State,
    (s.err = true → exec .build32 s = .next s) ∧
    (s.err = false → ∃ T : Table 32,
      exec .build32 s = .next { s with tbl32 := T, tpoly32 := s.poly, tv32 := true } ∧
      ∀ i : Byte, tableGet T i = entry s.poly i)

/-- R93 to R95, corner case: building twice with the same polynomial leaves the table, and all the rest, unchanged. -/
def Obligations.RebuildingChangesNothing : Prop :=
  ∀ s t : State,
    (exec .build8 s = .next t → exec .build8 t = .next t) ∧
    (exec .build16 s = .next t → exec .build16 t = .next t) ∧
    (exec .build32 s = .next t → exec .build32 t = .next t)

/-! ## The CRC Engines -/

/-- R101: the per-byte step at each width, in the concatenations the rule writes out. -/
def Obligations.FoldStepAtEachWidth : Prop :=
  ∀ (ri : Bool) (b c : Byte), c = (if ri then (reflect (b.setWidth 32) 8).setWidth 8 else b) →
    (∀ (T : Table 8) (r : BitVec 8), foldByte T ri r b = tableGet T (r ^^^ c)) ∧
    (∀ (T : Table 16) (r x : BitVec 16), x = r ^^^ (c ++ 0x00#8) →
      foldByte T ri r b = (x.extractLsb' 0 8 ++ 0x00#8) ^^^ tableGet T (x.extractLsb' 8 8)) ∧
    (∀ (T : Table 32) (r x : BitVec 32), x = r ^^^ (c ++ 0x000000#24) →
      foldByte T ri r b = (x.extractLsb' 0 24 ++ 0x00#8) ^^^ tableGet T (x.extractLsb' 24 8))

/-- R102: the output stage, bit by bit, at all three widths: the reflection before the final XOR if ro = 1, at width 8
too. -/
def Obligations.OutputStageReflectsThenXors : Prop :=
  ∀ (w : Width) (r x : BitVec w.bits),
    finish r false x = r ^^^ x ∧
    ∀ j < w.bits, (finish r true x).getLsbD j = (r.getLsbD (w.bits - 1 - j) ^^ x.getLsbD j)

/-- R103: an empty sequence gives the initial value through the output stage, whatever the table holds; the command
then reads no byte and does not examine DPTR. -/
def Obligations.EmptySequenceGivesTheFinishedInitialValue : Prop :=
  (∀ (w : Width) (T : Table w.bits) (init x : BitVec w.bits) (ri ro : Bool),
    crc T [] init x ri ro = finish init ro x) ∧
  ∀ (s : State) (ri ro : Bool), s.err = false → s.dlen = 0#32 →
    (s.tv8 = true → exec (.compute8 ri ro) s =
      .next { s with result := (finish (s.init.setWidth 8) ro (s.xorout.setWidth 8)).setWidth 32 }) ∧
    (s.tv16 = true → exec (.compute16 ri ro) s =
      .next { s with result := (finish (s.init.setWidth 16) ro (s.xorout.setWidth 16)).setWidth 32 }) ∧
    (s.tv32 = true → exec (.compute32 ri ro) s = .next { s with result := finish s.init ro s.xorout })

/-- 42_crc_compute.md section 1, table and bitwise equivalence, at the three widths: with the table of p, the
table-driven computation is the bit-by-bit one for every sequence, and per byte, eight division steps are one table
step. The spelling of the bit-by-bit computation is the spec's own inference. -/
def Obligations.TableDrivenIsBitwise : Prop :=
  ∀ (w : Width) (p : BitVec w.bits),
    (∀ (T : Table w.bits) (bytes : List Byte) (init x : BitVec w.bits) (ri ro : Bool), TableHolds T p →
      crc T bytes init x ri ro = bitwise p bytes init x ri ro) ∧
    (∀ x : BitVec w.bits, divSteps p 8 x = (x <<< 8) ^^^ entry p ((x >>> (w.bits - 8)).setWidth 8))

/-- R107: COMPUTE8, whole: its words, the ignored command, NOTABLE, RANGE, and the checksum of the sequence into
RESULT, everything else unchanged. Of the port's record, the model's own (log entry 3), it says that each byte was read
once, in order. -/
def Obligations.Compute8WritesTheChecksum : Prop :=
  (decode 0x003#32 = .ok (.compute8 false false) ∧ decode 0x103#32 = .ok (.compute8 true false) ∧
    decode 0x203#32 = .ok (.compute8 false true) ∧ decode 0x303#32 = .ok (.compute8 true true)) ∧
  ∀ (s : State) (ri ro : Bool),
    (s.err = true → exec (.compute8 ri ro) s = .next s) ∧
    (s.err = false → s.tv8 = false → exec (.compute8 ri ro) s = .next { s with err := true, cause := 3#4 }) ∧
    (s.err = false → s.tv8 = true → 0 < s.dlen.toNat → 2 ^ 32 < s.dptr.toNat + s.dlen.toNat →
      exec (.compute8 ri ro) s = .next { s with err := true, cause := 4#4 }) ∧
    (s.err = false → s.tv8 = true → InRange s → exec (.compute8 ri ro) s = .next { s with
      result := (crc s.tbl8 (sequenceBytes s) (s.init.setWidth 8) (s.xorout.setWidth 8) ri ro).setWidth 32
      port := (sequenceAddresses s).reverse ++ s.port })

/-- R108: COMPUTE16, whole, as COMPUTE8. -/
def Obligations.Compute16WritesTheChecksum : Prop :=
  (decode 0x013#32 = .ok (.compute16 false false) ∧ decode 0x113#32 = .ok (.compute16 true false) ∧
    decode 0x213#32 = .ok (.compute16 false true) ∧ decode 0x313#32 = .ok (.compute16 true true)) ∧
  ∀ (s : State) (ri ro : Bool),
    (s.err = true → exec (.compute16 ri ro) s = .next s) ∧
    (s.err = false → s.tv16 = false → exec (.compute16 ri ro) s = .next { s with err := true, cause := 3#4 }) ∧
    (s.err = false → s.tv16 = true → 0 < s.dlen.toNat → 2 ^ 32 < s.dptr.toNat + s.dlen.toNat →
      exec (.compute16 ri ro) s = .next { s with err := true, cause := 4#4 }) ∧
    (s.err = false → s.tv16 = true → InRange s → exec (.compute16 ri ro) s = .next { s with
      result := (crc s.tbl16 (sequenceBytes s) (s.init.setWidth 16) (s.xorout.setWidth 16) ri ro).setWidth 32
      port := (sequenceAddresses s).reverse ++ s.port })

/-- R109: COMPUTE32, whole, as COMPUTE8. -/
def Obligations.Compute32WritesTheChecksum : Prop :=
  (decode 0x023#32 = .ok (.compute32 false false) ∧ decode 0x123#32 = .ok (.compute32 true false) ∧
    decode 0x223#32 = .ok (.compute32 false true) ∧ decode 0x323#32 = .ok (.compute32 true true)) ∧
  ∀ (s : State) (ri ro : Bool),
    (s.err = true → exec (.compute32 ri ro) s = .next s) ∧
    (s.err = false → s.tv32 = false → exec (.compute32 ri ro) s = .next { s with err := true, cause := 3#4 }) ∧
    (s.err = false → s.tv32 = true → 0 < s.dlen.toNat → 2 ^ 32 < s.dptr.toNat + s.dlen.toNat →
      exec (.compute32 ri ro) s = .next { s with err := true, cause := 4#4 }) ∧
    (s.err = false → s.tv32 = true → InRange s → exec (.compute32 ri ro) s = .next { s with
      result := crc s.tbl32 (sequenceBytes s) s.init s.xorout ri ro
      port := (sequenceAddresses s).reverse ++ s.port })

/-- COMPUTEW against the bit-by-bit computation: in a state that meets the invariant, RESULT is the checksum the
polynomial in TPOLYW gives by division, whatever POLY holds (R105, R110). -/
def Obligations.ComputeIsTheDivisionByTpoly : Prop :=
  ∀ (s : State) (ri ro : Bool), Inv s → s.err = false → InRange s →
    (s.tv8 = true → exec (.compute8 ri ro) s = .next { s with
      result := (bitwise (s.tpoly8.setWidth 8) (sequenceBytes s) (s.init.setWidth 8) (s.xorout.setWidth 8)
        ri ro).setWidth 32
      port := (sequenceAddresses s).reverse ++ s.port }) ∧
    (s.tv16 = true → exec (.compute16 ri ro) s = .next { s with
      result := (bitwise (s.tpoly16.setWidth 16) (sequenceBytes s) (s.init.setWidth 16) (s.xorout.setWidth 16)
        ri ro).setWidth 32
      port := (sequenceAddresses s).reverse ++ s.port }) ∧
    (s.tv32 = true → exec (.compute32 ri ro) s = .next { s with
      result := bitwise s.tpoly32 (sequenceBytes s) s.init s.xorout ri ro
      port := (sequenceAddresses s).reverse ++ s.port })

/-- R105: COMPUTEW reads neither POLY nor TPOLYW. With other values in all four, it does the same to the rest. -/
def Obligations.ComputeDoesNotReadPolynomials : Prop :=
  ∀ (s t : State) (ri ro : Bool) (a b c d : Word) (i : Instr),
    i = .compute8 ri ro ∨ i = .compute16 ri ro ∨ i = .compute32 ri ro → exec i s = .next t →
    exec i { s with poly := a, tpoly8 := b, tpoly16 := c, tpoly32 := d } =
      .next { t with poly := a, tpoly8 := b, tpoly16 := c, tpoly32 := d }

/-- R13 to R15: a command of width W uses the low W bits of POLY, INIT and XOROUT and ignores the others. -/
def Obligations.UpperOperandBitsAreIgnored : Prop :=
  ∀ (s t : State) (p a x : Word) (w : Width) (ri ro : Bool) (i : Instr),
    p.setWidth w.bits = s.poly.setWidth w.bits → a.setWidth w.bits = s.init.setWidth w.bits →
    x.setWidth w.bits = s.xorout.setWidth w.bits →
    i = buildOf w ∨ i = computeOf ri ro w ∨ i = crcOf ri ro w → exec i s = .next t →
    exec i { s with poly := p, init := a, xorout := x } = .next { t with poly := p, init := a, xorout := x }

/-- R106: software can continue a computation with neither output reflection nor a final XOR by feeding the result back
as the initial value. -/
def Obligations.ResultCanBeFedBackAsInit : Prop :=
  ∀ (w : Width) (T : Table w.bits) (xs ys : List Byte) (init : BitVec w.bits) (ri : Bool),
    crc T (xs ++ ys) init 0 ri false = crc T ys (crc T xs init 0 ri false) 0 ri false

/-! ## The one-shot commands -/

/-- R121: CRC8, whole: its words, the ignored command, RANGE before the build, and the table, TPOLY8, TV8 and RESULT
with everything else unchanged; the port's record as at COMPUTE8. -/
def Obligations.Crc8BuildsAndWritesTheChecksum : Prop :=
  (decode 0x004#32 = .ok (.crc8 false false) ∧ decode 0x104#32 = .ok (.crc8 true false) ∧
    decode 0x204#32 = .ok (.crc8 false true) ∧ decode 0x304#32 = .ok (.crc8 true true)) ∧
  ∀ (s : State) (ri ro : Bool),
    (s.err = true → exec (.crc8 ri ro) s = .next s) ∧
    (s.err = false → 0 < s.dlen.toNat → 2 ^ 32 < s.dptr.toNat + s.dlen.toNat →
      exec (.crc8 ri ro) s = .next { s with err := true, cause := 4#4 }) ∧
    (s.err = false → InRange s → ∃ T : Table 8, (∀ i : Byte, tableGet T i = entry (s.poly.setWidth 8) i) ∧
      exec (.crc8 ri ro) s = .next { s with
        tbl8 := T
        tpoly8 := (s.poly.setWidth 8).setWidth 32
        tv8 := true
        result := (crc T (sequenceBytes s) (s.init.setWidth 8) (s.xorout.setWidth 8) ri ro).setWidth 32
        port := (sequenceAddresses s).reverse ++ s.port })

/-- R122: CRC16, whole, as CRC8. -/
def Obligations.Crc16BuildsAndWritesTheChecksum : Prop :=
  (decode 0x014#32 = .ok (.crc16 false false) ∧ decode 0x114#32 = .ok (.crc16 true false) ∧
    decode 0x214#32 = .ok (.crc16 false true) ∧ decode 0x314#32 = .ok (.crc16 true true)) ∧
  ∀ (s : State) (ri ro : Bool),
    (s.err = true → exec (.crc16 ri ro) s = .next s) ∧
    (s.err = false → 0 < s.dlen.toNat → 2 ^ 32 < s.dptr.toNat + s.dlen.toNat →
      exec (.crc16 ri ro) s = .next { s with err := true, cause := 4#4 }) ∧
    (s.err = false → InRange s → ∃ T : Table 16, (∀ i : Byte, tableGet T i = entry (s.poly.setWidth 16) i) ∧
      exec (.crc16 ri ro) s = .next { s with
        tbl16 := T
        tpoly16 := (s.poly.setWidth 16).setWidth 32
        tv16 := true
        result := (crc T (sequenceBytes s) (s.init.setWidth 16) (s.xorout.setWidth 16) ri ro).setWidth 32
        port := (sequenceAddresses s).reverse ++ s.port })

/-- R123: CRC32, whole, as CRC8. -/
def Obligations.Crc32BuildsAndWritesTheChecksum : Prop :=
  (decode 0x024#32 = .ok (.crc32 false false) ∧ decode 0x124#32 = .ok (.crc32 true false) ∧
    decode 0x224#32 = .ok (.crc32 false true) ∧ decode 0x324#32 = .ok (.crc32 true true)) ∧
  ∀ (s : State) (ri ro : Bool),
    (s.err = true → exec (.crc32 ri ro) s = .next s) ∧
    (s.err = false → 0 < s.dlen.toNat → 2 ^ 32 < s.dptr.toNat + s.dlen.toNat →
      exec (.crc32 ri ro) s = .next { s with err := true, cause := 4#4 }) ∧
    (s.err = false → InRange s → ∃ T : Table 32, (∀ i : Byte, tableGet T i = entry s.poly i) ∧
      exec (.crc32 ri ro) s = .next { s with
        tbl32 := T
        tpoly32 := s.poly
        tv32 := true
        result := crc T (sequenceBytes s) s.init s.xorout ri ro
        port := (sequenceAddresses s).reverse ++ s.port })

/-- 43_crc_oneshot.md section 1, equivalence of the two forms (there "derived: from rule R120"): where CRCW does not
fault it ends in the state that BUILDW and then COMPUTEW end in. -/
def Obligations.OneShotIsBuildThenCompute : Prop :=
  ∀ (s : State) (w : Width) (ri ro : Bool), s.err = false → InRange s →
    ∃ u t, exec (buildOf w) s = .next u ∧ exec (computeOf ri ro w) u = .next t ∧ exec (crcOf ri ro w) s = .next t ∧
      t.err = false

/-- 43_crc_oneshot.md section 1, the same place: where the RANGE check fails the two forms differ. CRCW faults before it
builds; the sequence builds and then faults. -/
def Obligations.OneShotFaultsBeforeItBuilds : Prop :=
  ∀ (s : State) (w : Width) (ri ro : Bool), s.err = false → ¬ InRange s →
    exec (crcOf ri ro w) s = .next { s with err := true, cause := 4#4 } ∧
    ∃ u, exec (buildOf w) s = .next u ∧ u.tv w = true ∧
      exec (computeOf ri ro w) u = .next { u with err := true, cause := 4#4 }

/-- CRCW against the bit-by-bit computation: RESULT is the checksum the polynomial in POLY gives by division, in every
state in which the command does not fault (R120, R110). -/
def Obligations.OneShotIsTheDivisionByPoly : Prop :=
  ∀ (s : State) (ri ro : Bool), s.err = false → InRange s →
    (∃ t, exec (.crc8 ri ro) s = .next t ∧
      t.result = (bitwise (s.poly.setWidth 8) (sequenceBytes s) (s.init.setWidth 8) (s.xorout.setWidth 8)
        ri ro).setWidth 32) ∧
    (∃ t, exec (.crc16 ri ro) s = .next t ∧
      t.result = (bitwise (s.poly.setWidth 16) (sequenceBytes s) (s.init.setWidth 16) (s.xorout.setWidth 16)
        ri ro).setWidth 32) ∧
    (∃ t, exec (.crc32 ri ro) s = .next t ∧
      t.result = bitwise s.poly (sequenceBytes s) s.init s.xorout ri ro)

/-! ## What only some things change -/

/-- R49: a COMPUTEW or CRCW that does not fault reads the addresses of its sequence, each once, in increasing order, and
no other (in the port's record, the model's own: log entry 3); a command that faults or is ignored reads none; REFLECT and BUILDW never read. -/
def Obligations.SequenceIsReadOnceInOrder : Prop :=
  ∀ (i : Instr) (s t : State), exec i s = .next t →
    (readsSequence i = true → s.err = false → t.err = false →
      t.port = (sequenceAddresses s).reverse ++ s.port ∧
      (sequenceAddresses s).Pairwise (fun a b => a.toNat < b.toNat) ∧
      ∀ a ∈ sequenceAddresses s, s.dptr.toNat ≤ a.toNat ∧ a.toNat < s.dptr.toNat + s.dlen.toNat) ∧
    (readsSequence i = false ∨ t.err = true → t.port = s.port)

/-- R49, "reads no other address": with other bytes outside its sequence, a command does the same to the rest. -/
def Obligations.CommandsDependOnTheirSequenceAlone : Prop :=
  ∀ (i : Instr) (s t : State) (m : Memory),
    (∀ k < s.dlen.toNat, Memory.read m (s.dptr.toNat + k) = Memory.read s.mem (s.dptr.toNat + k)) →
    exec i s = .next t → exec i { s with mem := m } = .next { t with mem := m }

/-- R46, "The core never writes DMEM": no command changes a byte of it, and no step does but the platform's own
store. -/
def Obligations.CoreNeverWritesDataMemory : Prop :=
  (∀ (i : Instr) (s t : State), exec i s = .next t → t.mem = s.mem) ∧
  ∀ s t : State, step s = .next t → (∀ a b rest, s.script ≠ .store a b :: rest) → t.mem = s.mem

/-- R19: no command writes an operand register; each changes by a host write to it or by reset alone. -/
def Obligations.OperandsChangeByHostWriteOrResetAlone : Prop :=
  (∀ (i : Instr) (s t : State) (r : OperandReg), exec i s = .next t → t.operand r = s.operand r) ∧
  ∀ (s t : State) (r : OperandReg), step s = .next t → (∀ rest, s.script ≠ .reset :: rest) →
    (∀ v rest, s.script ≠ .write (operandOffset r) 32 v :: rest) → t.operand r = s.operand r

/-- R20: RESULT changes by REFLECT, COMPUTEW and CRCW (and by reset) alone, and by none of them when it faults. -/
def Obligations.ResultChangesByItsCommandsAlone : Prop :=
  (∀ (i : Instr) (s t : State), exec i s = .next t → t.err = true → t.result = s.result) ∧
  (∀ (s t : State) (w : Width), exec (buildOf w) s = .next t → t.result = s.result) ∧
  ∀ s t : State, step s = .next t → (∀ rest, s.script ≠ .reset :: rest) →
    (∀ word rest, s.script ≠ .write 0x000#12 32 word :: rest) → t.result = s.result

/-- R26: between two builds of width W nothing changes table W, TPOLYW or TVW: no other command, no transaction of the
host, no fault. -/
def Obligations.TablesChangeByTheirBuildOrResetAlone : Prop :=
  ∀ (w : Width) (s t : State), step s = .next t → (∀ rest, s.script ≠ .reset :: rest) →
    (∀ word rest i, s.script = .write 0x000#12 32 word :: rest → decode word = .ok i → ¬ buildsTable w i) →
    t.tbl w = s.tbl w ∧ t.tpoly w = s.tpoly w ∧ t.tv w = s.tv w

/-- R22: a TVW bit that is 1 stays 1 until reset. -/
def Obligations.ValidBitsStayUntilReset : Prop :=
  ∀ (w : Width) (s t : State), step s = .next t → (∀ rest, s.script ≠ .reset :: rest) → s.tv w = true → t.tv w = true

/-! ## The invariant -/

/-- The invariant holds after reset. Of DMEM it says no more than the model's canonical form. -/
def Obligations.ResetMeetsTheInvariant : Prop := Inv State.reset

/-- Every step keeps the invariant, from every state that meets it: DMEM's canonical form, CAUSE in agreement with ERR
(R22, R131), TPOLYW a W-bit value (R23), and all 256 entries of a valid table the entries of TPOLYW (R57). -/
def Obligations.StepKeepsTheInvariant : Prop :=
  ∀ s t : State, Inv s → step s = .next t → Inv t
end

