-- ==== Sys2Proof/Laws/State.lean ====
section
/-! SUPPORT. Each field after each operation of Machine/Ops.lean: no proof need unfold a record update. -/

namespace Sys2Proof.Machine

/-! `setResult` -/

@[simp] theorem setResult_rval (v : Word) (s : State) : (setResult v s).rval = s.rval := rfl
@[simp] theorem setResult_poly (v : Word) (s : State) : (setResult v s).poly = s.poly := rfl
@[simp] theorem setResult_init (v : Word) (s : State) : (setResult v s).init = s.init := rfl
@[simp] theorem setResult_xorout (v : Word) (s : State) : (setResult v s).xorout = s.xorout := rfl
@[simp] theorem setResult_dptr (v : Word) (s : State) : (setResult v s).dptr = s.dptr := rfl
@[simp] theorem setResult_dlen (v : Word) (s : State) : (setResult v s).dlen = s.dlen := rfl
@[simp] theorem setResult_result (v : Word) (s : State) : (setResult v s).result = v := rfl
@[simp] theorem setResult_err (v : Word) (s : State) : (setResult v s).err = s.err := rfl
@[simp] theorem setResult_cause (v : Word) (s : State) : (setResult v s).cause = s.cause := rfl
@[simp] theorem setResult_tv8 (v : Word) (s : State) : (setResult v s).tv8 = s.tv8 := rfl
@[simp] theorem setResult_tv16 (v : Word) (s : State) : (setResult v s).tv16 = s.tv16 := rfl
@[simp] theorem setResult_tv32 (v : Word) (s : State) : (setResult v s).tv32 = s.tv32 := rfl
@[simp] theorem setResult_tpoly8 (v : Word) (s : State) : (setResult v s).tpoly8 = s.tpoly8 := rfl
@[simp] theorem setResult_tpoly16 (v : Word) (s : State) : (setResult v s).tpoly16 = s.tpoly16 := rfl
@[simp] theorem setResult_tpoly32 (v : Word) (s : State) : (setResult v s).tpoly32 = s.tpoly32 := rfl
@[simp] theorem setResult_tbl8 (v : Word) (s : State) : (setResult v s).tbl8 = s.tbl8 := rfl
@[simp] theorem setResult_tbl16 (v : Word) (s : State) : (setResult v s).tbl16 = s.tbl16 := rfl
@[simp] theorem setResult_tbl32 (v : Word) (s : State) : (setResult v s).tbl32 = s.tbl32 := rfl
@[simp] theorem setResult_mem (v : Word) (s : State) : (setResult v s).mem = s.mem := rfl
@[simp] theorem setResult_script (v : Word) (s : State) : (setResult v s).script = s.script := rfl
@[simp] theorem setResult_reads (v : Word) (s : State) : (setResult v s).reads = s.reads := rfl
@[simp] theorem setResult_port (v : Word) (s : State) : (setResult v s).port = s.port := rfl
@[simp] theorem setResult_draws (v : Word) (s : State) : (setResult v s).draws = s.draws := rfl

/-! `setOperand` -/

@[simp] theorem setOperand_rval (r : OperandReg) (v : Word) (s : State) : (setOperand r v s).rval = if r = .rval then v else s.rval := by cases r <;> rfl
@[simp] theorem setOperand_poly (r : OperandReg) (v : Word) (s : State) : (setOperand r v s).poly = if r = .poly then v else s.poly := by cases r <;> rfl
@[simp] theorem setOperand_init (r : OperandReg) (v : Word) (s : State) : (setOperand r v s).init = if r = .init then v else s.init := by cases r <;> rfl
@[simp] theorem setOperand_xorout (r : OperandReg) (v : Word) (s : State) : (setOperand r v s).xorout = if r = .xorout then v else s.xorout := by cases r <;> rfl
@[simp] theorem setOperand_dptr (r : OperandReg) (v : Word) (s : State) : (setOperand r v s).dptr = if r = .dptr then v else s.dptr := by cases r <;> rfl
@[simp] theorem setOperand_dlen (r : OperandReg) (v : Word) (s : State) : (setOperand r v s).dlen = if r = .dlen then v else s.dlen := by cases r <;> rfl
@[simp] theorem setOperand_result (r : OperandReg) (v : Word) (s : State) : (setOperand r v s).result = s.result := by cases r <;> rfl
@[simp] theorem setOperand_err (r : OperandReg) (v : Word) (s : State) : (setOperand r v s).err = s.err := by cases r <;> rfl
@[simp] theorem setOperand_cause (r : OperandReg) (v : Word) (s : State) : (setOperand r v s).cause = s.cause := by cases r <;> rfl
@[simp] theorem setOperand_tv8 (r : OperandReg) (v : Word) (s : State) : (setOperand r v s).tv8 = s.tv8 := by cases r <;> rfl
@[simp] theorem setOperand_tv16 (r : OperandReg) (v : Word) (s : State) : (setOperand r v s).tv16 = s.tv16 := by cases r <;> rfl
@[simp] theorem setOperand_tv32 (r : OperandReg) (v : Word) (s : State) : (setOperand r v s).tv32 = s.tv32 := by cases r <;> rfl
@[simp] theorem setOperand_tpoly8 (r : OperandReg) (v : Word) (s : State) : (setOperand r v s).tpoly8 = s.tpoly8 := by cases r <;> rfl
@[simp] theorem setOperand_tpoly16 (r : OperandReg) (v : Word) (s : State) : (setOperand r v s).tpoly16 = s.tpoly16 := by cases r <;> rfl
@[simp] theorem setOperand_tpoly32 (r : OperandReg) (v : Word) (s : State) : (setOperand r v s).tpoly32 = s.tpoly32 := by cases r <;> rfl
@[simp] theorem setOperand_tbl8 (r : OperandReg) (v : Word) (s : State) : (setOperand r v s).tbl8 = s.tbl8 := by cases r <;> rfl
@[simp] theorem setOperand_tbl16 (r : OperandReg) (v : Word) (s : State) : (setOperand r v s).tbl16 = s.tbl16 := by cases r <;> rfl
@[simp] theorem setOperand_tbl32 (r : OperandReg) (v : Word) (s : State) : (setOperand r v s).tbl32 = s.tbl32 := by cases r <;> rfl
@[simp] theorem setOperand_mem (r : OperandReg) (v : Word) (s : State) : (setOperand r v s).mem = s.mem := by cases r <;> rfl
@[simp] theorem setOperand_script (r : OperandReg) (v : Word) (s : State) : (setOperand r v s).script = s.script := by cases r <;> rfl
@[simp] theorem setOperand_reads (r : OperandReg) (v : Word) (s : State) : (setOperand r v s).reads = s.reads := by cases r <;> rfl
@[simp] theorem setOperand_port (r : OperandReg) (v : Word) (s : State) : (setOperand r v s).port = s.port := by cases r <;> rfl
@[simp] theorem setOperand_draws (r : OperandReg) (v : Word) (s : State) : (setOperand r v s).draws = s.draws := by cases r <;> rfl

/-! `setTable` -/

@[simp] theorem setTable_rval (w : Width) (T : Table w.bits) (p : Word) (s : State) : (setTable w T p s).rval = s.rval := by cases w <;> rfl
@[simp] theorem setTable_poly (w : Width) (T : Table w.bits) (p : Word) (s : State) : (setTable w T p s).poly = s.poly := by cases w <;> rfl
@[simp] theorem setTable_init (w : Width) (T : Table w.bits) (p : Word) (s : State) : (setTable w T p s).init = s.init := by cases w <;> rfl
@[simp] theorem setTable_xorout (w : Width) (T : Table w.bits) (p : Word) (s : State) : (setTable w T p s).xorout = s.xorout := by cases w <;> rfl
@[simp] theorem setTable_dptr (w : Width) (T : Table w.bits) (p : Word) (s : State) : (setTable w T p s).dptr = s.dptr := by cases w <;> rfl
@[simp] theorem setTable_dlen (w : Width) (T : Table w.bits) (p : Word) (s : State) : (setTable w T p s).dlen = s.dlen := by cases w <;> rfl
@[simp] theorem setTable_result (w : Width) (T : Table w.bits) (p : Word) (s : State) : (setTable w T p s).result = s.result := by cases w <;> rfl
@[simp] theorem setTable_err (w : Width) (T : Table w.bits) (p : Word) (s : State) : (setTable w T p s).err = s.err := by cases w <;> rfl
@[simp] theorem setTable_cause (w : Width) (T : Table w.bits) (p : Word) (s : State) : (setTable w T p s).cause = s.cause := by cases w <;> rfl
@[simp] theorem setTable_mem (w : Width) (T : Table w.bits) (p : Word) (s : State) : (setTable w T p s).mem = s.mem := by cases w <;> rfl
@[simp] theorem setTable_script (w : Width) (T : Table w.bits) (p : Word) (s : State) : (setTable w T p s).script = s.script := by cases w <;> rfl
@[simp] theorem setTable_reads (w : Width) (T : Table w.bits) (p : Word) (s : State) : (setTable w T p s).reads = s.reads := by cases w <;> rfl
@[simp] theorem setTable_port (w : Width) (T : Table w.bits) (p : Word) (s : State) : (setTable w T p s).port = s.port := by cases w <;> rfl
@[simp] theorem setTable_draws (w : Width) (T : Table w.bits) (p : Word) (s : State) : (setTable w T p s).draws = s.draws := by cases w <;> rfl
@[simp] theorem setTable_w8_tv8 (T : Table 8) (p : Word) (s : State) :
    (setTable .w8 T p s).tv8 = true := rfl
@[simp] theorem setTable_w8_tpoly8 (T : Table 8) (p : Word) (s : State) :
    (setTable .w8 T p s).tpoly8 = p := rfl
@[simp] theorem setTable_w8_tbl8 (T : Table 8) (p : Word) (s : State) :
    (setTable .w8 T p s).tbl8 = T := rfl
@[simp] theorem setTable_w8_tv16 (T : Table 8) (p : Word) (s : State) :
    (setTable .w8 T p s).tv16 = s.tv16 := rfl
@[simp] theorem setTable_w8_tpoly16 (T : Table 8) (p : Word) (s : State) :
    (setTable .w8 T p s).tpoly16 = s.tpoly16 := rfl
@[simp] theorem setTable_w8_tbl16 (T : Table 8) (p : Word) (s : State) :
    (setTable .w8 T p s).tbl16 = s.tbl16 := rfl
@[simp] theorem setTable_w8_tv32 (T : Table 8) (p : Word) (s : State) :
    (setTable .w8 T p s).tv32 = s.tv32 := rfl
@[simp] theorem setTable_w8_tpoly32 (T : Table 8) (p : Word) (s : State) :
    (setTable .w8 T p s).tpoly32 = s.tpoly32 := rfl
@[simp] theorem setTable_w8_tbl32 (T : Table 8) (p : Word) (s : State) :
    (setTable .w8 T p s).tbl32 = s.tbl32 := rfl
@[simp] theorem setTable_w16_tv8 (T : Table 16) (p : Word) (s : State) :
    (setTable .w16 T p s).tv8 = s.tv8 := rfl
@[simp] theorem setTable_w16_tpoly8 (T : Table 16) (p : Word) (s : State) :
    (setTable .w16 T p s).tpoly8 = s.tpoly8 := rfl
@[simp] theorem setTable_w16_tbl8 (T : Table 16) (p : Word) (s : State) :
    (setTable .w16 T p s).tbl8 = s.tbl8 := rfl
@[simp] theorem setTable_w16_tv16 (T : Table 16) (p : Word) (s : State) :
    (setTable .w16 T p s).tv16 = true := rfl
@[simp] theorem setTable_w16_tpoly16 (T : Table 16) (p : Word) (s : State) :
    (setTable .w16 T p s).tpoly16 = p := rfl
@[simp] theorem setTable_w16_tbl16 (T : Table 16) (p : Word) (s : State) :
    (setTable .w16 T p s).tbl16 = T := rfl
@[simp] theorem setTable_w16_tv32 (T : Table 16) (p : Word) (s : State) :
    (setTable .w16 T p s).tv32 = s.tv32 := rfl
@[simp] theorem setTable_w16_tpoly32 (T : Table 16) (p : Word) (s : State) :
    (setTable .w16 T p s).tpoly32 = s.tpoly32 := rfl
@[simp] theorem setTable_w16_tbl32 (T : Table 16) (p : Word) (s : State) :
    (setTable .w16 T p s).tbl32 = s.tbl32 := rfl
@[simp] theorem setTable_w32_tv8 (T : Table 32) (p : Word) (s : State) :
    (setTable .w32 T p s).tv8 = s.tv8 := rfl
@[simp] theorem setTable_w32_tpoly8 (T : Table 32) (p : Word) (s : State) :
    (setTable .w32 T p s).tpoly8 = s.tpoly8 := rfl
@[simp] theorem setTable_w32_tbl8 (T : Table 32) (p : Word) (s : State) :
    (setTable .w32 T p s).tbl8 = s.tbl8 := rfl
@[simp] theorem setTable_w32_tv16 (T : Table 32) (p : Word) (s : State) :
    (setTable .w32 T p s).tv16 = s.tv16 := rfl
@[simp] theorem setTable_w32_tpoly16 (T : Table 32) (p : Word) (s : State) :
    (setTable .w32 T p s).tpoly16 = s.tpoly16 := rfl
@[simp] theorem setTable_w32_tbl16 (T : Table 32) (p : Word) (s : State) :
    (setTable .w32 T p s).tbl16 = s.tbl16 := rfl
@[simp] theorem setTable_w32_tv32 (T : Table 32) (p : Word) (s : State) :
    (setTable .w32 T p s).tv32 = true := rfl
@[simp] theorem setTable_w32_tpoly32 (T : Table 32) (p : Word) (s : State) :
    (setTable .w32 T p s).tpoly32 = p := rfl
@[simp] theorem setTable_w32_tbl32 (T : Table 32) (p : Word) (s : State) :
    (setTable .w32 T p s).tbl32 = T := rfl

/-! `returnToHost` -/

@[simp] theorem returnToHost_rval (v : Word) (s : State) : (returnToHost v s).rval = s.rval := rfl
@[simp] theorem returnToHost_poly (v : Word) (s : State) : (returnToHost v s).poly = s.poly := rfl
@[simp] theorem returnToHost_init (v : Word) (s : State) : (returnToHost v s).init = s.init := rfl
@[simp] theorem returnToHost_xorout (v : Word) (s : State) : (returnToHost v s).xorout = s.xorout := rfl
@[simp] theorem returnToHost_dptr (v : Word) (s : State) : (returnToHost v s).dptr = s.dptr := rfl
@[simp] theorem returnToHost_dlen (v : Word) (s : State) : (returnToHost v s).dlen = s.dlen := rfl
@[simp] theorem returnToHost_result (v : Word) (s : State) : (returnToHost v s).result = s.result := rfl
@[simp] theorem returnToHost_err (v : Word) (s : State) : (returnToHost v s).err = s.err := rfl
@[simp] theorem returnToHost_cause (v : Word) (s : State) : (returnToHost v s).cause = s.cause := rfl
@[simp] theorem returnToHost_tv8 (v : Word) (s : State) : (returnToHost v s).tv8 = s.tv8 := rfl
@[simp] theorem returnToHost_tv16 (v : Word) (s : State) : (returnToHost v s).tv16 = s.tv16 := rfl
@[simp] theorem returnToHost_tv32 (v : Word) (s : State) : (returnToHost v s).tv32 = s.tv32 := rfl
@[simp] theorem returnToHost_tpoly8 (v : Word) (s : State) : (returnToHost v s).tpoly8 = s.tpoly8 := rfl
@[simp] theorem returnToHost_tpoly16 (v : Word) (s : State) : (returnToHost v s).tpoly16 = s.tpoly16 := rfl
@[simp] theorem returnToHost_tpoly32 (v : Word) (s : State) : (returnToHost v s).tpoly32 = s.tpoly32 := rfl
@[simp] theorem returnToHost_tbl8 (v : Word) (s : State) : (returnToHost v s).tbl8 = s.tbl8 := rfl
@[simp] theorem returnToHost_tbl16 (v : Word) (s : State) : (returnToHost v s).tbl16 = s.tbl16 := rfl
@[simp] theorem returnToHost_tbl32 (v : Word) (s : State) : (returnToHost v s).tbl32 = s.tbl32 := rfl
@[simp] theorem returnToHost_mem (v : Word) (s : State) : (returnToHost v s).mem = s.mem := rfl
@[simp] theorem returnToHost_script (v : Word) (s : State) : (returnToHost v s).script = s.script := rfl
@[simp] theorem returnToHost_reads (v : Word) (s : State) : (returnToHost v s).reads = v :: s.reads := rfl
@[simp] theorem returnToHost_port (v : Word) (s : State) : (returnToHost v s).port = s.port := rfl
@[simp] theorem returnToHost_draws (v : Word) (s : State) : (returnToHost v s).draws = s.draws := rfl

/-! `withScript` -/

@[simp] theorem withScript_rval (rest : List Transaction) (s : State) : (withScript rest s).rval = s.rval := rfl
@[simp] theorem withScript_poly (rest : List Transaction) (s : State) : (withScript rest s).poly = s.poly := rfl
@[simp] theorem withScript_init (rest : List Transaction) (s : State) : (withScript rest s).init = s.init := rfl
@[simp] theorem withScript_xorout (rest : List Transaction) (s : State) : (withScript rest s).xorout = s.xorout := rfl
@[simp] theorem withScript_dptr (rest : List Transaction) (s : State) : (withScript rest s).dptr = s.dptr := rfl
@[simp] theorem withScript_dlen (rest : List Transaction) (s : State) : (withScript rest s).dlen = s.dlen := rfl
@[simp] theorem withScript_result (rest : List Transaction) (s : State) : (withScript rest s).result = s.result := rfl
@[simp] theorem withScript_err (rest : List Transaction) (s : State) : (withScript rest s).err = s.err := rfl
@[simp] theorem withScript_cause (rest : List Transaction) (s : State) : (withScript rest s).cause = s.cause := rfl
@[simp] theorem withScript_tv8 (rest : List Transaction) (s : State) : (withScript rest s).tv8 = s.tv8 := rfl
@[simp] theorem withScript_tv16 (rest : List Transaction) (s : State) : (withScript rest s).tv16 = s.tv16 := rfl
@[simp] theorem withScript_tv32 (rest : List Transaction) (s : State) : (withScript rest s).tv32 = s.tv32 := rfl
@[simp] theorem withScript_tpoly8 (rest : List Transaction) (s : State) : (withScript rest s).tpoly8 = s.tpoly8 := rfl
@[simp] theorem withScript_tpoly16 (rest : List Transaction) (s : State) : (withScript rest s).tpoly16 = s.tpoly16 := rfl
@[simp] theorem withScript_tpoly32 (rest : List Transaction) (s : State) : (withScript rest s).tpoly32 = s.tpoly32 := rfl
@[simp] theorem withScript_tbl8 (rest : List Transaction) (s : State) : (withScript rest s).tbl8 = s.tbl8 := rfl
@[simp] theorem withScript_tbl16 (rest : List Transaction) (s : State) : (withScript rest s).tbl16 = s.tbl16 := rfl
@[simp] theorem withScript_tbl32 (rest : List Transaction) (s : State) : (withScript rest s).tbl32 = s.tbl32 := rfl
@[simp] theorem withScript_mem (rest : List Transaction) (s : State) : (withScript rest s).mem = s.mem := rfl
@[simp] theorem withScript_script (rest : List Transaction) (s : State) : (withScript rest s).script = rest := rfl
@[simp] theorem withScript_reads (rest : List Transaction) (s : State) : (withScript rest s).reads = s.reads := rfl
@[simp] theorem withScript_port (rest : List Transaction) (s : State) : (withScript rest s).port = s.port := rfl
@[simp] theorem withScript_draws (rest : List Transaction) (s : State) : (withScript rest s).draws = s.draws := rfl

/-! `takeDraw` -/

@[simp] theorem takeDraw_rval (s : State) : (takeDraw s).rval = s.rval := rfl
@[simp] theorem takeDraw_poly (s : State) : (takeDraw s).poly = s.poly := rfl
@[simp] theorem takeDraw_init (s : State) : (takeDraw s).init = s.init := rfl
@[simp] theorem takeDraw_xorout (s : State) : (takeDraw s).xorout = s.xorout := rfl
@[simp] theorem takeDraw_dptr (s : State) : (takeDraw s).dptr = s.dptr := rfl
@[simp] theorem takeDraw_dlen (s : State) : (takeDraw s).dlen = s.dlen := rfl
@[simp] theorem takeDraw_result (s : State) : (takeDraw s).result = s.result := rfl
@[simp] theorem takeDraw_err (s : State) : (takeDraw s).err = s.err := rfl
@[simp] theorem takeDraw_cause (s : State) : (takeDraw s).cause = s.cause := rfl
@[simp] theorem takeDraw_tv8 (s : State) : (takeDraw s).tv8 = s.tv8 := rfl
@[simp] theorem takeDraw_tv16 (s : State) : (takeDraw s).tv16 = s.tv16 := rfl
@[simp] theorem takeDraw_tv32 (s : State) : (takeDraw s).tv32 = s.tv32 := rfl
@[simp] theorem takeDraw_tpoly8 (s : State) : (takeDraw s).tpoly8 = s.tpoly8 := rfl
@[simp] theorem takeDraw_tpoly16 (s : State) : (takeDraw s).tpoly16 = s.tpoly16 := rfl
@[simp] theorem takeDraw_tpoly32 (s : State) : (takeDraw s).tpoly32 = s.tpoly32 := rfl
@[simp] theorem takeDraw_tbl8 (s : State) : (takeDraw s).tbl8 = s.tbl8 := rfl
@[simp] theorem takeDraw_tbl16 (s : State) : (takeDraw s).tbl16 = s.tbl16 := rfl
@[simp] theorem takeDraw_tbl32 (s : State) : (takeDraw s).tbl32 = s.tbl32 := rfl
@[simp] theorem takeDraw_mem (s : State) : (takeDraw s).mem = s.mem := rfl
@[simp] theorem takeDraw_script (s : State) : (takeDraw s).script = s.script := rfl
@[simp] theorem takeDraw_reads (s : State) : (takeDraw s).reads = s.reads := rfl
@[simp] theorem takeDraw_port (s : State) : (takeDraw s).port = s.port := rfl
@[simp] theorem takeDraw_draws (s : State) : (takeDraw s).draws = s.draws + 1 := rfl

/-! `raiseFault` -/

@[simp] theorem raiseFault_rval (c : FaultCause) (s : State) : (raiseFault c s).rval = s.rval := rfl
@[simp] theorem raiseFault_poly (c : FaultCause) (s : State) : (raiseFault c s).poly = s.poly := rfl
@[simp] theorem raiseFault_init (c : FaultCause) (s : State) : (raiseFault c s).init = s.init := rfl
@[simp] theorem raiseFault_xorout (c : FaultCause) (s : State) : (raiseFault c s).xorout = s.xorout := rfl
@[simp] theorem raiseFault_dptr (c : FaultCause) (s : State) : (raiseFault c s).dptr = s.dptr := rfl
@[simp] theorem raiseFault_dlen (c : FaultCause) (s : State) : (raiseFault c s).dlen = s.dlen := rfl
@[simp] theorem raiseFault_result (c : FaultCause) (s : State) : (raiseFault c s).result = s.result := rfl
@[simp] theorem raiseFault_err (c : FaultCause) (s : State) : (raiseFault c s).err = true := rfl
@[simp] theorem raiseFault_cause (c : FaultCause) (s : State) : (raiseFault c s).cause = c.code := rfl
@[simp] theorem raiseFault_tv8 (c : FaultCause) (s : State) : (raiseFault c s).tv8 = s.tv8 := rfl
@[simp] theorem raiseFault_tv16 (c : FaultCause) (s : State) : (raiseFault c s).tv16 = s.tv16 := rfl
@[simp] theorem raiseFault_tv32 (c : FaultCause) (s : State) : (raiseFault c s).tv32 = s.tv32 := rfl
@[simp] theorem raiseFault_tpoly8 (c : FaultCause) (s : State) : (raiseFault c s).tpoly8 = s.tpoly8 := rfl
@[simp] theorem raiseFault_tpoly16 (c : FaultCause) (s : State) : (raiseFault c s).tpoly16 = s.tpoly16 := rfl
@[simp] theorem raiseFault_tpoly32 (c : FaultCause) (s : State) : (raiseFault c s).tpoly32 = s.tpoly32 := rfl
@[simp] theorem raiseFault_tbl8 (c : FaultCause) (s : State) : (raiseFault c s).tbl8 = s.tbl8 := rfl
@[simp] theorem raiseFault_tbl16 (c : FaultCause) (s : State) : (raiseFault c s).tbl16 = s.tbl16 := rfl
@[simp] theorem raiseFault_tbl32 (c : FaultCause) (s : State) : (raiseFault c s).tbl32 = s.tbl32 := rfl
@[simp] theorem raiseFault_mem (c : FaultCause) (s : State) : (raiseFault c s).mem = s.mem := rfl
@[simp] theorem raiseFault_script (c : FaultCause) (s : State) : (raiseFault c s).script = s.script := rfl
@[simp] theorem raiseFault_reads (c : FaultCause) (s : State) : (raiseFault c s).reads = s.reads := rfl
@[simp] theorem raiseFault_port (c : FaultCause) (s : State) : (raiseFault c s).port = s.port := rfl
@[simp] theorem raiseFault_draws (c : FaultCause) (s : State) : (raiseFault c s).draws = s.draws := rfl

/-! `platformStore` -/

@[simp] theorem platformStore_rval (a : Word) (b : Byte) (s : State) : (platformStore a b s).rval = s.rval := rfl
@[simp] theorem platformStore_poly (a : Word) (b : Byte) (s : State) : (platformStore a b s).poly = s.poly := rfl
@[simp] theorem platformStore_init (a : Word) (b : Byte) (s : State) : (platformStore a b s).init = s.init := rfl
@[simp] theorem platformStore_xorout (a : Word) (b : Byte) (s : State) : (platformStore a b s).xorout = s.xorout := rfl
@[simp] theorem platformStore_dptr (a : Word) (b : Byte) (s : State) : (platformStore a b s).dptr = s.dptr := rfl
@[simp] theorem platformStore_dlen (a : Word) (b : Byte) (s : State) : (platformStore a b s).dlen = s.dlen := rfl
@[simp] theorem platformStore_result (a : Word) (b : Byte) (s : State) : (platformStore a b s).result = s.result := rfl
@[simp] theorem platformStore_err (a : Word) (b : Byte) (s : State) : (platformStore a b s).err = s.err := rfl
@[simp] theorem platformStore_cause (a : Word) (b : Byte) (s : State) : (platformStore a b s).cause = s.cause := rfl
@[simp] theorem platformStore_tv8 (a : Word) (b : Byte) (s : State) : (platformStore a b s).tv8 = s.tv8 := rfl
@[simp] theorem platformStore_tv16 (a : Word) (b : Byte) (s : State) : (platformStore a b s).tv16 = s.tv16 := rfl
@[simp] theorem platformStore_tv32 (a : Word) (b : Byte) (s : State) : (platformStore a b s).tv32 = s.tv32 := rfl
@[simp] theorem platformStore_tpoly8 (a : Word) (b : Byte) (s : State) : (platformStore a b s).tpoly8 = s.tpoly8 := rfl
@[simp] theorem platformStore_tpoly16 (a : Word) (b : Byte) (s : State) : (platformStore a b s).tpoly16 = s.tpoly16 := rfl
@[simp] theorem platformStore_tpoly32 (a : Word) (b : Byte) (s : State) : (platformStore a b s).tpoly32 = s.tpoly32 := rfl
@[simp] theorem platformStore_tbl8 (a : Word) (b : Byte) (s : State) : (platformStore a b s).tbl8 = s.tbl8 := rfl
@[simp] theorem platformStore_tbl16 (a : Word) (b : Byte) (s : State) : (platformStore a b s).tbl16 = s.tbl16 := rfl
@[simp] theorem platformStore_tbl32 (a : Word) (b : Byte) (s : State) : (platformStore a b s).tbl32 = s.tbl32 := rfl
@[simp] theorem platformStore_mem (a : Word) (b : Byte) (s : State) : (platformStore a b s).mem = Memory.write s.mem a.toNat b := rfl
@[simp] theorem platformStore_script (a : Word) (b : Byte) (s : State) : (platformStore a b s).script = s.script := rfl
@[simp] theorem platformStore_reads (a : Word) (b : Byte) (s : State) : (platformStore a b s).reads = s.reads := rfl
@[simp] theorem platformStore_port (a : Word) (b : Byte) (s : State) : (platformStore a b s).port = s.port := rfl
@[simp] theorem platformStore_draws (a : Word) (b : Byte) (s : State) : (platformStore a b s).draws = s.draws := rfl

/-! `memRead` -/

@[simp] theorem memRead_fst (s : State) (a : Word) : (memRead s a).1 = Memory.read s.mem a.toNat := rfl
@[simp] theorem memRead_rval (s : State) (a : Word) : ((memRead s a).2).rval = s.rval := rfl
@[simp] theorem memRead_poly (s : State) (a : Word) : ((memRead s a).2).poly = s.poly := rfl
@[simp] theorem memRead_init (s : State) (a : Word) : ((memRead s a).2).init = s.init := rfl
@[simp] theorem memRead_xorout (s : State) (a : Word) : ((memRead s a).2).xorout = s.xorout := rfl
@[simp] theorem memRead_dptr (s : State) (a : Word) : ((memRead s a).2).dptr = s.dptr := rfl
@[simp] theorem memRead_dlen (s : State) (a : Word) : ((memRead s a).2).dlen = s.dlen := rfl
@[simp] theorem memRead_result (s : State) (a : Word) : ((memRead s a).2).result = s.result := rfl
@[simp] theorem memRead_err (s : State) (a : Word) : ((memRead s a).2).err = s.err := rfl
@[simp] theorem memRead_cause (s : State) (a : Word) : ((memRead s a).2).cause = s.cause := rfl
@[simp] theorem memRead_tv8 (s : State) (a : Word) : ((memRead s a).2).tv8 = s.tv8 := rfl
@[simp] theorem memRead_tv16 (s : State) (a : Word) : ((memRead s a).2).tv16 = s.tv16 := rfl
@[simp] theorem memRead_tv32 (s : State) (a : Word) : ((memRead s a).2).tv32 = s.tv32 := rfl
@[simp] theorem memRead_tpoly8 (s : State) (a : Word) : ((memRead s a).2).tpoly8 = s.tpoly8 := rfl
@[simp] theorem memRead_tpoly16 (s : State) (a : Word) : ((memRead s a).2).tpoly16 = s.tpoly16 := rfl
@[simp] theorem memRead_tpoly32 (s : State) (a : Word) : ((memRead s a).2).tpoly32 = s.tpoly32 := rfl
@[simp] theorem memRead_tbl8 (s : State) (a : Word) : ((memRead s a).2).tbl8 = s.tbl8 := rfl
@[simp] theorem memRead_tbl16 (s : State) (a : Word) : ((memRead s a).2).tbl16 = s.tbl16 := rfl
@[simp] theorem memRead_tbl32 (s : State) (a : Word) : ((memRead s a).2).tbl32 = s.tbl32 := rfl
@[simp] theorem memRead_mem (s : State) (a : Word) : ((memRead s a).2).mem = s.mem := rfl
@[simp] theorem memRead_script (s : State) (a : Word) : ((memRead s a).2).script = s.script := rfl
@[simp] theorem memRead_reads (s : State) (a : Word) : ((memRead s a).2).reads = s.reads := rfl
@[simp] theorem memRead_port (s : State) (a : Word) : ((memRead s a).2).port = a :: s.port := rfl
@[simp] theorem memRead_draws (s : State) (a : Word) : ((memRead s a).2).draws = s.draws := rfl

/-! `resetCore` -/

@[simp] theorem resetCore_rval (s : State) : (resetCore s).rval = 0#32 := rfl
@[simp] theorem resetCore_poly (s : State) : (resetCore s).poly = 0#32 := rfl
@[simp] theorem resetCore_init (s : State) : (resetCore s).init = 0#32 := rfl
@[simp] theorem resetCore_xorout (s : State) : (resetCore s).xorout = 0#32 := rfl
@[simp] theorem resetCore_dptr (s : State) : (resetCore s).dptr = 0#32 := rfl
@[simp] theorem resetCore_dlen (s : State) : (resetCore s).dlen = 0#32 := rfl
@[simp] theorem resetCore_result (s : State) : (resetCore s).result = 0#32 := rfl
@[simp] theorem resetCore_err (s : State) : (resetCore s).err = false := rfl
@[simp] theorem resetCore_cause (s : State) : (resetCore s).cause = 0#4 := rfl
@[simp] theorem resetCore_tv8 (s : State) : (resetCore s).tv8 = false := rfl
@[simp] theorem resetCore_tv16 (s : State) : (resetCore s).tv16 = false := rfl
@[simp] theorem resetCore_tv32 (s : State) : (resetCore s).tv32 = false := rfl
@[simp] theorem resetCore_tpoly8 (s : State) : (resetCore s).tpoly8 = 0#32 := rfl
@[simp] theorem resetCore_tpoly16 (s : State) : (resetCore s).tpoly16 = 0#32 := rfl
@[simp] theorem resetCore_tpoly32 (s : State) : (resetCore s).tpoly32 = 0#32 := rfl
@[simp] theorem resetCore_tbl8 (s : State) : (resetCore s).tbl8 = unbuiltTable8 s.draws := rfl
@[simp] theorem resetCore_tbl16 (s : State) : (resetCore s).tbl16 = unbuiltTable16 s.draws := rfl
@[simp] theorem resetCore_tbl32 (s : State) : (resetCore s).tbl32 = unbuiltTable32 s.draws := rfl
@[simp] theorem resetCore_mem (s : State) : (resetCore s).mem = s.mem := rfl
@[simp] theorem resetCore_script (s : State) : (resetCore s).script = s.script := rfl
@[simp] theorem resetCore_reads (s : State) : (resetCore s).reads = s.reads := rfl
@[simp] theorem resetCore_port (s : State) : (resetCore s).port = s.port := rfl
@[simp] theorem resetCore_draws (s : State) : (resetCore s).draws = s.draws + 1 := rfl

end Sys2Proof.Machine
end

