-- ==== Sys2Proof/Laws/Memory.lean ====
section
/-! SUPPORT. The laws of the data memory: a read after a write, and the canonical form. -/

namespace Sys2Proof.Machine

theorem Memory.read_nil (a : Nat) : Memory.read [] a = Memory.unlisted := rfl

/-- An address below every listed one reads as unlisted. -/
theorem Memory.read_of_forall_ne (m : Memory) (a : Nat) (h : ∀ c ∈ m, c.1 ≠ a) :
    Memory.read m a = Memory.unlisted := by
  induction m with
  | nil => rfl
  | cons c rest ih =>
    rw [Memory.read, if_neg (h c List.mem_cons_self)]
    exact ih fun d hd => h d (List.mem_cons_of_mem c hd)

/-- The tail of a canonical memory is canonical. -/
theorem Memory.wf_tail {c : Host.Cell} {m : Memory} (h : Memory.wf (c :: m)) : Memory.wf m :=
  ⟨(List.pairwise_cons.mp h.1).2, fun d hd => h.2 d (List.mem_cons_of_mem c hd)⟩

/-- What is written is what the same address then reads as. -/
theorem Memory.read_write_same (m : Memory) (a : Nat) (b : Byte) (h : Memory.wf m) :
    Memory.read (Memory.write m a b) a = b := by
  induction m with
  | nil => simp only [Memory.write]; split <;> simp_all [Memory.read]
  | cons c rest ih =>
    have hrest : ∀ d ∈ rest, c.1 < d.1 := (List.pairwise_cons.mp h.1).1
    simp only [Memory.write]
    split
    · rename_i hlt
      split
      · rename_i hb
        rw [Memory.read_of_forall_ne, hb]
        intro d hd
        rcases List.mem_cons.mp hd with rfl | hd
        · omega
        · have := hrest d hd; omega
      · simp [Memory.read]
    · split
      · rename_i heq
        split
        · rename_i hb
          rw [Memory.read_of_forall_ne, hb]
          intro d hd
          have := hrest d hd
          omega
        · simp [Memory.read]
      · rename_i hne
        rw [Memory.read, if_neg (by omega)]
        exact ih (Memory.wf_tail h)

/-- Every other address reads as before. -/
theorem Memory.read_write_other (m : Memory) (a a' : Nat) (b : Byte) (hne : a' ≠ a) (h : Memory.wf m) :
    Memory.read (Memory.write m a b) a' = Memory.read m a' := by
  induction m with
  | nil => simp only [Memory.write]; split <;> simp [Memory.read, Ne.symm hne]
  | cons c rest ih =>
    have hrest : ∀ d ∈ rest, c.1 < d.1 := (List.pairwise_cons.mp h.1).1
    simp only [Memory.write]
    split
    · split
      · rfl
      · simp [Memory.read, Ne.symm hne]
    · split
      · rename_i heq
        split <;> simp [Memory.read, Ne.symm hne, ← heq]
      · simp only [Memory.read]
        rw [ih (Memory.wf_tail h)]

/-- An address of the written memory was listed before, or is the one written. -/
theorem Memory.mem_write {m : Memory} {a : Nat} {b : Byte} {c : Host.Cell} (h : c ∈ Memory.write m a b) :
    c ∈ m ∨ (c = (a, b) ∧ b ≠ Memory.unlisted) := by
  induction m with
  | nil => simp only [Memory.write] at h; split at h <;> simp_all
  | cons d rest ih =>
    simp only [Memory.write] at h
    split at h
    · split at h
      · exact .inl h
      · rcases List.mem_cons.mp h with rfl | h
        · exact .inr ⟨rfl, by assumption⟩
        · exact .inl h
    · split at h
      · split at h
        · exact .inl (List.mem_cons_of_mem d h)
        · rcases List.mem_cons.mp h with rfl | h
          · exact .inr ⟨rfl, by assumption⟩
          · exact .inl (List.mem_cons_of_mem d h)
      · rcases List.mem_cons.mp h with rfl | h
        · exact .inl List.mem_cons_self
        · rcases ih h with h | h
          · exact .inl (List.mem_cons_of_mem d h)
          · exact .inr h

/-- A write inside the address space keeps the canonical form. -/
theorem Memory.write_wf (m : Memory) (a : Nat) (b : Byte) (ha : a < 2 ^ 32) (h : Memory.wf m) :
    Memory.wf (Memory.write m a b) := by
  refine ⟨?_, fun c hc => ?_⟩
  · induction m with
    | nil => simp only [Memory.write]; split <;> simp
    | cons c rest ih =>
      obtain ⟨hlt, hrest⟩ := List.pairwise_cons.mp h.1
      simp only [Memory.write]
      split
      · split
        · exact h.1
        · refine List.pairwise_cons.mpr ⟨fun d hd => ?_, h.1⟩
          rcases List.mem_cons.mp hd with rfl | hd
          · assumption
          · exact Nat.lt_trans (by assumption) (hlt d hd)
      · split
        · rename_i heq
          split
          · exact hrest
          · exact List.pairwise_cons.mpr ⟨fun d hd => heq ▸ hlt d hd, hrest⟩
        · refine List.pairwise_cons.mpr ⟨fun d hd => ?_, ih (Memory.wf_tail h)⟩
          rcases Memory.mem_write hd with hd | ⟨rfl, -⟩
          · exact hlt d hd
          · show c.1 < a
            omega
  · rcases Memory.mem_write hc with hc | ⟨rfl, hb⟩
    · exact h.2 c hc
    · exact ⟨ha, hb⟩

/-- The memory of the reset state is in canonical form. -/
theorem reset_memory_wf : Memory.wf State.reset.mem := by simp [State.reset, Memory.wf]

/-- The platform's store keeps the canonical form. -/
theorem platformStore_memory_wf (a : Word) (b : Byte) (s : State) (h : Memory.wf s.mem) :
    Memory.wf (platformStore a b s).mem := Memory.write_wf s.mem a.toNat b a.isLt h

/-- A DMEM read leaves the memory as it is. -/
theorem memRead_memory_wf (s : State) (a : Word) (h : Memory.wf s.mem) : Memory.wf (memRead s a).2.mem := h

end Sys2Proof.Machine
end

