-- ==== Sys2Proof/Laws/Ops.lean ====
section
/-! SUPPORT. What each shared operation can do, said once. -/

namespace Sys2Proof.Machine

@[simp] theorem tv_w8 (s : State) : s.tv .w8 = s.tv8 := rfl
@[simp] theorem tv_w16 (s : State) : s.tv .w16 = s.tv16 := rfl
@[simp] theorem tv_w32 (s : State) : s.tv .w32 = s.tv32 := rfl
@[simp] theorem tpoly_w8 (s : State) : s.tpoly .w8 = s.tpoly8 := rfl
@[simp] theorem tpoly_w16 (s : State) : s.tpoly .w16 = s.tpoly16 := rfl
@[simp] theorem tpoly_w32 (s : State) : s.tpoly .w32 = s.tpoly32 := rfl
@[simp] theorem tbl_w8 (s : State) : s.tbl .w8 = s.tbl8 := rfl
@[simp] theorem tbl_w16 (s : State) : s.tbl .w16 = s.tbl16 := rfl
@[simp] theorem tbl_w32 (s : State) : s.tbl .w32 = s.tbl32 := rfl

@[simp] theorem setTable_tv (w : Width) (T : Table w.bits) (p : Word) (s : State) : (setTable w T p s).tv w = true := by
  cases w <;> rfl
@[simp] theorem setTable_tpoly (w : Width) (T : Table w.bits) (p : Word) (s : State) : (setTable w T p s).tpoly w = p := by
  cases w <;> rfl
@[simp] theorem setTable_tbl (w : Width) (T : Table w.bits) (p : Word) (s : State) : (setTable w T p s).tbl w = T := by
  cases w <;> rfl

/-- A command while ERR = 1. -/
theorem command_of_err {body : State → State} {s : State} (h : s.err = true) : command body s = s := if_pos h

/-- A command while ERR = 0. -/
theorem command_of_ok {body : State → State} {s : State} (h : s.err = false) : command body s = body s :=
  if_neg (by simp [h])

/-- Everything a command can do: nothing while ERR = 1, its body otherwise. -/
theorem command_cases (body : State → State) (s : State) :
    (s.err = true ∧ command body s = s) ∨ (s.err = false ∧ command body s = body s) := by
  cases h : s.err
  · exact .inr ⟨rfl, command_of_ok h⟩
  · exact .inl ⟨rfl, command_of_err h⟩

/-- An entry of a built table. -/
theorem tableGet_buildTable {W : Nat} (p : BitVec W) (i : Byte) : tableGet (buildTable p) i = entry p i := by
  simp [tableGet, buildTable]

/-- A sequence that is in range has the addresses DPTR, DPTR+1, ... of the natural numbers. -/
theorem byteAddress_toNat (s : State) (k : Nat) (h : s.dptr.toNat + k < 2 ^ 32) :
    (byteAddress s k).toNat = s.dptr.toNat + k := by
  simp only [byteAddress, BitVec.toNat_add, BitVec.toNat_ofNat]
  omega

/-- A DMEM read changes nothing that the addresses of the sequence depend on. -/
theorem byteAddress_memRead (s : State) (a : Word) (k : Nat) : byteAddress (memRead s a).2 k = byteAddress s k := rfl

/-- The engine's loop, whole: the register is the fold of the bytes read, and of the state only the port's record
changes, by the addresses read, the latest first. -/
theorem engineLoop_eq {W : Nat} (T : Table W) (ri : Bool) (n k : Nat) (r : BitVec W) (s : State) :
    engineLoop T ri n k r s =
      (((List.range' k n).map fun j => Memory.read s.mem (byteAddress s j).toNat).foldl (foldByte T ri) r,
        { s with port := ((List.range' k n).map fun j => byteAddress s j).reverse ++ s.port }) := by
  induction n generalizing k r s with
  | zero => rfl
  | succ n ih =>
    rw [engineLoop, ih]
    simp [List.range'_succ, memRead, byteAddress]

/-- What a command of width W that has passed its checks leaves: RESULT and the port's record. -/
theorem runEngine_eq (w : Width) (ri ro : Bool) (s : State) :
    runEngine w ri ro s =
      { s with
        result := widen w (crc (s.tbl w)
          ((List.range s.dlen.toNat).map fun j => Memory.read s.mem (byteAddress s j).toNat)
          (lowBits w s.init) (lowBits w s.xorout) ri ro)
        port := ((List.range s.dlen.toNat).map fun j => byteAddress s j).reverse ++ s.port } := by
  simp only [runEngine, engineLoop_eq, crc, List.range_eq_range', setResult]

/-- Everything COMPUTEW can do while ERR = 0. -/
theorem compute_cases (w : Width) (ri ro : Bool) (s : State) :
    (s.tv w = false ∧ compute w ri ro s = raiseFault .notable s) ∨
    (s.tv w = true ∧ pastTop s = true ∧ compute w ri ro s = raiseFault .range s) ∨
    (s.tv w = true ∧ pastTop s = false ∧ compute w ri ro s = runEngine w ri ro s) := by
  cases ht : s.tv w <;> cases hp : pastTop s <;> simp [compute, ht, hp]

/-- Everything CRCW can do while ERR = 0. -/
theorem crcOneShot_cases (w : Width) (ri ro : Bool) (s : State) :
    (pastTop s = true ∧ crcOneShot w ri ro s = raiseFault .range s) ∨
    (pastTop s = false ∧ crcOneShot w ri ro s = runEngine w ri ro (build w s)) := by
  cases hp : pastTop s <;> simp [crcOneShot, hp]

/-- The state the body of a command leaves while ERR = 0. -/
def effect : Instr → State → State
  | .reflect n, s => if 32 < n then raiseFault .nbits s else setResult (reflect s.rval n) s
  | .build8, s => build .w8 s
  | .build16, s => build .w16 s
  | .build32, s => build .w32 s
  | .compute8 ri ro, s => compute .w8 ri ro s
  | .compute16 ri ro, s => compute .w16 ri ro s
  | .compute32 ri ro, s => compute .w32 ri ro s
  | .crc8 ri ro, s => crcOneShot .w8 ri ro s
  | .crc16 ri ro, s => crcOneShot .w16 ri ro s
  | .crc32 ri ro, s => crcOneShot .w32 ri ro s

/-- Every command answers a next state: its effect, or nothing while ERR = 1. -/
theorem exec_eq (i : Instr) (s : State) : exec i s = .next (command (effect i) s) := by cases i <;> rfl

end Sys2Proof.Machine
end

