-- ==== Sys2Proof/Laws/Step.lean ====
section
/-! SUPPORT. Everything one step can do, said once. -/

namespace Sys2Proof.Machine

/-- Everything a write to CMD can do. -/
theorem commandWrite_cases (word : Word) (s : State) :
    (∃ i, decode word = .ok i ∧ commandWrite word s = .next (command (effect i) s)) ∨
    (∃ e, decode word = .error e ∧ commandWrite word s = .next (illegalCommand s)) := by
  cases h : decode word with
  | ok i => exact .inl ⟨i, rfl, by simp [commandWrite, h, exec_eq]⟩
  | error e => exact .inr ⟨e, rfl, by simp [commandWrite, h]⟩

/-- An access that is answered with a next state is 32 bits wide, aligned, and acts on what stands at its offset. -/
theorem access_next {offset : BitVec 12} {bits : Nat} {act : Location → Host.Outcome State Fault Refusal} {t : State}
    (h : access offset bits act = .next t) :
    bits = 32 ∧ offset.toNat % 4 = 0 ∧ ∃ l, locate offset = some l ∧ act l = .next t := by
  unfold access at h
  split at h
  · cases h
  · split at h
    · cases h
    · split at h
      · cases h
      · rename_i hb ha _ l hl
        exact ⟨not_not.mp hb, not_not.mp ha, l, hl, h⟩

/-- Everything a write of the host's can do to the core. -/
theorem hostWrite_next {data : Word} {s t : State} {l : Location} (h : hostWrite data s l = .next t) :
    (l = .cmd ∧ commandWrite data s = .next t) ∨ (∃ r, l = .operand r ∧ t = setOperand r data s) := by
  cases l with
  | cmd => exact .inl ⟨rfl, h⟩
  | operand r => exact .inr ⟨r, rfl, by cases h; rfl⟩
  | status => cases h
  | result => cases h
  | tpoly w => cases h
  | entry w i => cases h

/-- Everything a read of the host's can do: a value is returned, and only the free-value counter may move. -/
theorem hostRead_next {s t : State} {l : Location} (h : hostRead s l = .next t) :
    ∃ v, t = returnToHost v s ∨ t = takeDraw (returnToHost v s) := by
  cases l with
  | cmd => cases h
  | status => cases h; exact ⟨_, .inl rfl⟩
  | result => cases h; exact ⟨_, .inl rfl⟩
  | operand r => cases h; exact ⟨_, .inl rfl⟩
  | tpoly w => cases h; exact ⟨_, .inl rfl⟩
  | entry w i =>
    cases h
    unfold readEntry
    split
    · exact ⟨_, .inl rfl⟩
    · exact ⟨_, .inr rfl⟩

/-- Everything one step can do, with `u` the state from which its transaction has been taken. -/
theorem step_cases {s t : State} (h : step s = .next t) :
    (s.script = [] ∧ t = s) ∨ ∃ x rest u, s.script = x :: rest ∧ u = withScript rest s ∧
      ((∃ offset data i, x = .write offset 32 data ∧ locate offset = some .cmd ∧ decode data = .ok i ∧
          t = command (effect i) u) ∨
        (∃ offset data e, x = .write offset 32 data ∧ locate offset = some .cmd ∧ decode data = .error e ∧
          t = illegalCommand u) ∨
        (∃ offset data r, x = .write offset 32 data ∧ locate offset = some (.operand r) ∧ t = setOperand r data u) ∨
        (∃ offset v, x = .read offset 32 ∧ (t = returnToHost v u ∨ t = takeDraw (returnToHost v u))) ∨
        (x = .reset ∧ t = resetCore u) ∨
        (∃ a b, x = .store a b ∧ t = platformStore a b u)) := by
  unfold step nextTransaction at h
  split at h
  · rename_i hs; cases h; exact .inl ⟨hs, rfl⟩
  · rename_i x rest hs
    refine .inr ⟨x, rest, _, hs, rfl, ?_⟩
    cases x with
    | write offset bits data =>
      obtain ⟨rfl, -, l, hl, h⟩ := access_next h
      rcases hostWrite_next h with ⟨rfl, h'⟩ | ⟨r, rfl, rfl⟩
      · rcases commandWrite_cases data (withScript rest s) with ⟨i, hi, he⟩ | ⟨e, hd, he⟩
        · rw [he] at h'; cases h'
          exact .inl ⟨offset, data, i, rfl, hl, hi, rfl⟩
        · rw [he] at h'; cases h'
          exact .inr (.inl ⟨offset, data, e, rfl, hl, hd, rfl⟩)
      · exact .inr (.inr (.inl ⟨offset, data, r, rfl, hl, rfl⟩))
    | read offset bits =>
      obtain ⟨rfl, -, l, -, h⟩ := access_next h
      obtain ⟨v, hv⟩ := hostRead_next h
      exact .inr (.inr (.inr (.inl ⟨offset, v, rfl, hv⟩)))
    | reset => cases h; exact .inr (.inr (.inr (.inr (.inl ⟨rfl, rfl⟩))))
    | store a b => cases h; exact .inr (.inr (.inr (.inr (.inr ⟨a, b, rfl, rfl⟩))))

end Sys2Proof.Machine
end

