-- ==== Sys2Proof/Laws/Commands.lean ====
section
/-! SUPPORT. Everything a command can do, in the words claims are stated in (Safety.lean). -/

namespace Sys2Proof.Machine

theorem pastTop_eq_false (s : State) : pastTop s = false ↔ InRange s := by
  simp [pastTop, InRange]
  omega

theorem pastTop_eq_true (s : State) : pastTop s = true ↔ ¬ InRange s := by
  rw [← pastTop_eq_false]
  simp

/-- In range, the addresses the engine forms are those of the sequence. -/
theorem byteAddress_sequence (s : State) (h : InRange s) :
    ((List.range s.dlen.toNat).map fun j => byteAddress s j) = sequenceAddresses s := by
  refine List.map_congr_left fun k hk => BitVec.eq_of_toNat_eq ?_
  have := List.mem_range.mp hk
  rw [byteAddress_toNat _ _ (by omega), BitVec.toNat_ofNat]
  omega

/-- In range, the bytes the engine reads are those of the sequence. -/
theorem readBytes_sequence (s : State) (h : InRange s) :
    ((List.range s.dlen.toNat).map fun j => Memory.read s.mem (byteAddress s j).toNat) = sequenceBytes s := by
  refine List.map_congr_left fun k hk => ?_
  have := List.mem_range.mp hk
  rw [byteAddress_toNat _ _ (by omega)]

/-- What the engine leaves when its sequence is in range. -/
theorem runEngine_inRange (w : Width) (ri ro : Bool) (s : State) (h : InRange s) :
    runEngine w ri ro s =
      { s with
        result := widen w (crc (s.tbl w) (sequenceBytes s) (lowBits w s.init) (lowBits w s.xorout) ri ro)
        port := (sequenceAddresses s).reverse ++ s.port } := by
  rw [runEngine_eq, byteAddress_sequence s h, readBytes_sequence s h]

theorem raiseFault_eq (c : FaultCause) (s : State) : raiseFault c s = { s with err := true, cause := c.code } := rfl

/-- At width 32 the operand forms change nothing. -/
theorem widen_w32 (x : BitVec 32) : widen .w32 x = x := BitVec.setWidth_eq x
theorem lowBits_w32 (x : Word) : lowBits .w32 x = x := BitVec.setWidth_eq x

@[simp] theorem build_err (w : Width) (s : State) : (build w s).err = s.err := by cases w <;> rfl
@[simp] theorem build_tv (w : Width) (s : State) : (build w s).tv w = true := by cases w <;> rfl
@[simp] theorem runEngine_err (w : Width) (ri ro : Bool) (s : State) : (runEngine w ri ro s).err = s.err := by
  rw [runEngine_eq]

/-- A build changes neither the place nor the length of the sequence. -/
theorem build_inRange (w : Width) (s : State) : InRange (build w s) ↔ InRange s := by cases w <;> rfl

theorem effect_buildOf (w : Width) : effect (buildOf w) = build w := by cases w <;> rfl
theorem effect_computeOf (ri ro : Bool) (w : Width) : effect (computeOf ri ro w) = compute w ri ro := by cases w <;> rfl
theorem effect_crcOf (ri ro : Bool) (w : Width) : effect (crcOf ri ro w) = crcOneShot w ri ro := by cases w <;> rfl

/-- Every command is a REFLECT, or the BUILD, COMPUTE or CRC of a width. -/
theorem instr_cases (i : Instr) :
    (∃ n, i = .reflect n) ∨ (∃ w, i = buildOf w) ∨ (∃ w ri ro, i = computeOf ri ro w) ∨ ∃ w ri ro, i = crcOf ri ro w := by
  cases i with
  | reflect n => exact .inl ⟨n, rfl⟩
  | build8 => exact .inr (.inl ⟨.w8, rfl⟩)
  | build16 => exact .inr (.inl ⟨.w16, rfl⟩)
  | build32 => exact .inr (.inl ⟨.w32, rfl⟩)
  | compute8 ri ro => exact .inr (.inr (.inl ⟨.w8, ri, ro, rfl⟩))
  | compute16 ri ro => exact .inr (.inr (.inl ⟨.w16, ri, ro, rfl⟩))
  | compute32 ri ro => exact .inr (.inr (.inl ⟨.w32, ri, ro, rfl⟩))
  | crc8 ri ro => exact .inr (.inr (.inr ⟨.w8, ri, ro, rfl⟩))
  | crc16 ri ro => exact .inr (.inr (.inr ⟨.w16, ri, ro, rfl⟩))
  | crc32 ri ro => exact .inr (.inr (.inr ⟨.w32, ri, ro, rfl⟩))

/-- Everything a command can do while ERR = 0: one of four effects, or one of three faults. -/
theorem effect_cases (i : Instr) (s : State) :
    (∃ n, i = .reflect n ∧ effect i s = setResult (reflect s.rval n) s) ∨
    (∃ w, i = buildOf w ∧ effect i s = build w s) ∨
    (∃ w ri ro, i = computeOf ri ro w ∧ InRange s ∧ s.tv w = true ∧ effect i s = runEngine w ri ro s) ∨
    (∃ w ri ro, i = crcOf ri ro w ∧ InRange s ∧ effect i s = runEngine w ri ro (build w s)) ∨
    (∃ c, c ≠ .illcmd ∧ effect i s = raiseFault c s) := by
  rcases instr_cases i with ⟨n, rfl⟩ | ⟨w, rfl⟩ | ⟨w, ri, ro, rfl⟩ | ⟨w, ri, ro, rfl⟩
  · by_cases h : 32 < n
    · exact .inr (.inr (.inr (.inr ⟨.nbits, by decide, if_pos h⟩)))
    · exact .inl ⟨n, rfl, if_neg h⟩
  · exact .inr (.inl ⟨w, rfl, by rw [effect_buildOf]⟩)
  · rw [effect_computeOf]
    rcases compute_cases w ri ro s with ⟨-, h⟩ | ⟨-, -, h⟩ | ⟨ht, hp, h⟩
    · exact .inr (.inr (.inr (.inr ⟨_, by decide, h⟩)))
    · exact .inr (.inr (.inr (.inr ⟨_, by decide, h⟩)))
    · exact .inr (.inr (.inl ⟨w, ri, ro, rfl, (pastTop_eq_false s).mp hp, ht, h⟩))
  · rw [effect_crcOf]
    rcases crcOneShot_cases w ri ro s with ⟨-, h⟩ | ⟨hp, h⟩
    · exact .inr (.inr (.inr (.inr ⟨_, by decide, h⟩)))
    · exact .inr (.inr (.inr (.inl ⟨w, ri, ro, rfl, (pastTop_eq_false s).mp hp, h⟩)))

/-- The next state of a command. -/
theorem exec_of_ok (i : Instr) {s : State} (h : s.err = false) : exec i s = .next (effect i s) := by
  rw [exec_eq, command_of_ok h]

theorem exec_of_err (i : Instr) {s : State} (h : s.err = true) : exec i s = .next s := by
  rw [exec_eq, command_of_err h]

/-- Everything that follows from a command's answer. -/
theorem exec_next {i : Instr} {s t : State} (h : exec i s = .next t) :
    (s.err = true ∧ t = s) ∨ (s.err = false ∧ t = effect i s) := by
  rw [exec_eq] at h
  cases h
  exact command_cases (effect i) s

end Sys2Proof.Machine
end

