-- ==== Sys2Proof/Laws/Decode.lean ====
section
/-! SUPPORT. The decoder by the numbers in a word's fields (spec/30_encoding.md R61). -/

namespace Sys2Proof

theorem fieldOp_toNat (w : Word) : (fieldOp w).toNat = w.toNat % 16 := by
  simp [fieldOp, BitVec.extractLsb'_toNat]

theorem fieldWsel_toNat (w : Word) : (fieldWsel w).toNat = w.toNat / 2 ^ 4 % 4 := by
  simp [fieldWsel, BitVec.extractLsb'_toNat, Nat.shiftRight_eq_div_pow]

theorem fieldNbits_toNat (w : Word) : (fieldNbits w).toNat = w.toNat / 2 ^ 16 % 64 := by
  simp [fieldNbits, BitVec.extractLsb'_toNat, Nat.shiftRight_eq_div_pow]

theorem fieldRi_eq (w : Word) : fieldRi w = decide (w.toNat / 2 ^ 8 % 2 = 1) := by
  simp [fieldRi, BitVec.getLsbD, Nat.testBit_eq_decide_div_mod_eq]

theorem fieldRo_eq (w : Word) : fieldRo w = decide (w.toNat / 2 ^ 9 % 2 = 1) := by
  simp [fieldRo, BitVec.getLsbD, Nat.testBit_eq_decide_div_mod_eq]

theorem reservedBitsClear_eq (w : Word) :
    reservedBitsClear w = decide (w.toNat / 2 ^ 6 % 4 = 0 ∧ w.toNat / 2 ^ 10 % 64 = 0 ∧ w.toNat / 2 ^ 22 = 0) := by
  have h := w.isLt
  simp only [reservedBitsClear]
  rw [Bool.eq_iff_iff]
  simp [← BitVec.toNat_inj, BitVec.extractLsb'_toNat, Nat.shiftRight_eq_div_pow]
  omega

/-- WSEL selects a width, or is 3. -/
theorem selectWidth_cases (w : Word) :
    (w.toNat / 2 ^ 4 % 4 = 0 ∧ selectWidth (fieldWsel w) = some .w8) ∨
    (w.toNat / 2 ^ 4 % 4 = 1 ∧ selectWidth (fieldWsel w) = some .w16) ∨
    (w.toNat / 2 ^ 4 % 4 = 2 ∧ selectWidth (fieldWsel w) = some .w32) ∨
    (w.toNat / 2 ^ 4 % 4 = 3 ∧ selectWidth (fieldWsel w) = none) := by
  have : w.toNat / 2 ^ 4 % 4 < 4 := Nat.mod_lt _ (by decide)
  unfold selectWidth
  rw [fieldWsel_toNat]
  generalize w.toNat / 2 ^ 4 % 4 = k at *
  interval_cases k <;> simp

/-- The decoder, with every field as a number. -/
theorem decode_by_fields (w : Word) : decode w =
    if w.toNat / 2 ^ 6 % 4 = 0 ∧ w.toNat / 2 ^ 10 % 64 = 0 ∧ w.toNat / 2 ^ 22 = 0 then
      match w.toNat % 16 with
      | 1 =>
        if w.toNat / 2 ^ 4 % 4 = 0 ∧ w.toNat / 2 ^ 8 % 2 ≠ 1 ∧ w.toNat / 2 ^ 9 % 2 ≠ 1 then
          .ok (.reflect (w.toNat / 2 ^ 16 % 64))
        else .error .unusedField
      | 2 =>
        if w.toNat / 2 ^ 8 % 2 ≠ 1 ∧ w.toNat / 2 ^ 9 % 2 ≠ 1 ∧ w.toNat / 2 ^ 16 % 64 = 0 then
          withWidth (fieldWsel w) buildOf
        else .error .unusedField
      | 3 =>
        if w.toNat / 2 ^ 16 % 64 = 0 then withWidth (fieldWsel w) (computeOf (w.getLsbD 8) (w.getLsbD 9))
        else .error .unusedField
      | 4 =>
        if w.toNat / 2 ^ 16 % 64 = 0 then withWidth (fieldWsel w) (crcOf (w.getLsbD 8) (w.getLsbD 9))
        else .error .unusedField
      | _ => .error .reservedOp
    else .error .mustBeZero := by
  have h2 (x : BitVec 2) : (x = 0#2) = (x.toNat = 0) := by simp [← BitVec.toNat_inj]
  have h6 (x : BitVec 6) : (x = 0#6) = (x.toNat = 0) := by simp [← BitVec.toNat_inj]
  unfold decode
  rw [reservedBitsClear_eq, fieldOp_toNat]
  simp only [h2, h6, fieldWsel_toNat, fieldNbits_toNat, fieldRi_eq, fieldRo_eq]
  simp [and_assoc, BitVec.getLsbD, Nat.testBit_eq_decide_div_mod_eq] <;> rfl

end Sys2Proof
end

