-- ==== Sys2Proof/Laws/PerInstr.lean ====
section
/-! SUPPORT. One family of statements about every command as syntax: its word matches its row of the opcode map
(spec/30_encoding.md R65). -/

namespace Sys2Proof.Laws.RowMatch

/-- The word of a command whose operands fit their fields matches the command's row: `(word and mask) = match`. -/
def Statement (i : Instr) : Prop := i.wellFormed = true → encode i &&& rowMask i = rowMatch i

theorem reflect (n : Nat) : Statement (.reflect n) := by
  intro h
  have hn : n < 64 := by simpa [Instr.wellFormed] using h
  have all : ∀ m : Fin 64, encode (.reflect m.val) &&& rowMask (.reflect m.val) = rowMatch (.reflect m.val) := by decide
  exact all ⟨n, hn⟩

theorem build8 : Statement .build8 := fun _ => by decide
theorem build16 : Statement .build16 := fun _ => by decide
theorem build32 : Statement .build32 := fun _ => by decide
theorem compute8 (ri ro : Bool) : Statement (.compute8 ri ro) := fun _ => by revert ri ro; decide
theorem compute16 (ri ro : Bool) : Statement (.compute16 ri ro) := fun _ => by revert ri ro; decide
theorem compute32 (ri ro : Bool) : Statement (.compute32 ri ro) := fun _ => by revert ri ro; decide
theorem crc8 (ri ro : Bool) : Statement (.crc8 ri ro) := fun _ => by revert ri ro; decide
theorem crc16 (ri ro : Bool) : Statement (.crc16 ri ro) := fun _ => by revert ri ro; decide
theorem crc32 (ri ro : Bool) : Statement (.crc32 ri ro) := fun _ => by revert ri ro; decide

end Sys2Proof.Laws.RowMatch
end

