-- ==== Sys2Proof/Tests/Slice0.lean ====
section
/-! SUPPORT. Tests on fixed values, each expected result from the spec's text (the source is named at each), and for
every statement of Certificates/Slice0/Obligations.lean with hypotheses a witness that meets them. -/

namespace Sys2Proof.Tests

open Sys2Proof.Machine

/-! ## Small states -/

/-- "123456789" at 0x1000 (95_test_vectors.md, conventions). -/
def checkString : Memory :=
  [(0x1000, 0x31#8), (0x1001, 0x32#8), (0x1002, 0x33#8), (0x1003, 0x34#8), (0x1004, 0x35#8), (0x1005, 0x36#8),
   (0x1006, 0x37#8), (0x1007, 0x38#8), (0x1008, 0x39#8)]

/-- After reset, with the check string as the sequence and a variant's parameters. -/
def variant (poly init xorout : Word) : State :=
  { State.reset with
    mem := checkString, dptr := 0x1000#32, dlen := 9#32, poly := poly, init := init, xorout := xorout }

/-- After reset, with the sequence at the given place. -/
def placed (dptr dlen : Word) : State := { State.reset with dptr := dptr, dlen := dlen }

/-- After reset, with one transaction to come. -/
def facing (t : Transaction) : State := { State.reset with script := [t] }

/-- After a fault ILLCMD, with one transaction to come. -/
def faultedFacing (t : Transaction) : State := raiseFault .illcmd (facing t)

/-- One field of the next state. -/
def after {α : Type} (f : State → α) : Host.Outcome State Fault Refusal → Option α
  | .next t => some (f t)
  | .fault _ => none
  | .refused _ => none

/-! ## Well-formedness and the command word -/

theorem test_wellFormed_refuses_nbits_64 : Instr.wellFormed (.reflect 64) = false := by decide
theorem test_wellFormed_takes_nbits_63 : Instr.wellFormed (.reflect 63) = true := by decide

/-! Each command's word, written bit by bit from the diagram of 30_encoding.md R61:
31..22 zero, NBITS, 15..10 zero, RO, RI, 7..6 zero, WSEL, OP. -/

theorem test_decode_reflect : decode (0b0000000000#10 ++ 0b100001#6 ++ 0b000000#6 ++ 0b0#1 ++ 0b0#1 ++ 0b00#2 ++
    0b00#2 ++ 0b0001#4) = .ok (.reflect 33) := by decide
theorem test_decode_build8 : decode (0b0000000000#10 ++ 0b000000#6 ++ 0b000000#6 ++ 0b0#1 ++ 0b0#1 ++ 0b00#2 ++
    0b00#2 ++ 0b0010#4) = .ok .build8 := by decide
theorem test_decode_build16 : decode (0b0000000000#10 ++ 0b000000#6 ++ 0b000000#6 ++ 0b0#1 ++ 0b0#1 ++ 0b00#2 ++
    0b01#2 ++ 0b0010#4) = .ok .build16 := by decide
theorem test_decode_build32 : decode (0b0000000000#10 ++ 0b000000#6 ++ 0b000000#6 ++ 0b0#1 ++ 0b0#1 ++ 0b00#2 ++
    0b10#2 ++ 0b0010#4) = .ok .build32 := by decide
theorem test_decode_compute8 : decode (0b0000000000#10 ++ 0b000000#6 ++ 0b000000#6 ++ 0b0#1 ++ 0b1#1 ++ 0b00#2 ++
    0b00#2 ++ 0b0011#4) = .ok (.compute8 true false) := by decide
theorem test_decode_compute16 : decode (0b0000000000#10 ++ 0b000000#6 ++ 0b000000#6 ++ 0b1#1 ++ 0b0#1 ++ 0b00#2 ++
    0b01#2 ++ 0b0011#4) = .ok (.compute16 false true) := by decide
theorem test_decode_compute32 : decode (0b0000000000#10 ++ 0b000000#6 ++ 0b000000#6 ++ 0b1#1 ++ 0b1#1 ++ 0b00#2 ++
    0b10#2 ++ 0b0011#4) = .ok (.compute32 true true) := by decide
theorem test_decode_crc8 : decode (0b0000000000#10 ++ 0b000000#6 ++ 0b000000#6 ++ 0b0#1 ++ 0b0#1 ++ 0b00#2 ++
    0b00#2 ++ 0b0100#4) = .ok (.crc8 false false) := by decide
theorem test_decode_crc16 : decode (0b0000000000#10 ++ 0b000000#6 ++ 0b000000#6 ++ 0b0#1 ++ 0b1#1 ++ 0b00#2 ++
    0b01#2 ++ 0b0100#4) = .ok (.crc16 true false) := by decide
theorem test_decode_crc32 : decode (0b0000000000#10 ++ 0b000000#6 ++ 0b000000#6 ++ 0b1#1 ++ 0b0#1 ++ 0b00#2 ++
    0b10#2 ++ 0b0100#4) = .ok (.crc32 false true) := by decide

/-- The illegal words of V40 to V46 (95_test_vectors.md section 6), each for its own reason. -/
theorem test_decode_rejects :
    decode 0x00000000#32 = .error .reservedOp ∧ decode 0x00000005#32 = .error .reservedOp ∧
    decode 0x00000032#32 = .error .reservedWsel ∧ decode 0x00000102#32 = .error .unusedField ∧
    decode 0x00010003#32 = .error .unusedField ∧ decode 0x80000004#32 = .error .mustBeZero ∧
    decode 0x00080011#32 = .error .unusedField := by decide

/-- A table row's bits, read with the numbering of spec/opcode_table.json. -/
theorem test_decodeTableWord : decodeTableWord 32 0x00200001 = some (.reflect 32) ∧ decodeTableWord 32 0x102 = none := by
  decide

/-- The first command after reset: RESULT of REFLECT 32, and the fault code of COMPUTE16 without a table (V49). -/
theorem test_withFetchWord_runs :
    after State.result (step (State.reset.withFetchWord 32 0x00200001)) = some 0#32 ∧
    after State.status (step (State.reset.withFetchWord 32 0x00000013)) = some 0x00000031#32 := by decide

/-! ## The commands -/

/-- V13, V17, V19: REFLECT 8, 32 and 16. -/
theorem test_reflect_vectors :
    after State.result (exec (.reflect 8) { State.reset with rval := 0xFFFFFF31#32 }) = some 0x0000008C#32 ∧
    after State.result (exec (.reflect 32) { State.reset with rval := 0x04C11DB7#32 }) = some 0xEDB88320#32 ∧
    after State.result (exec (.reflect 16) { State.reset with rval := 0x12345678#32 }) = some 0x00001E6A#32 := by
  decide +kernel

/-- V47: REFLECT 33 faults NBITS. -/
theorem test_reflect_33_faults :
    after State.status (exec (.reflect 33) { State.reset with rval := 0x31#32 }) = some 0x00000021#32 := by decide

/-- The example of R93: entries of the table of 0x07, and STATUS. -/
theorem test_build8 :
    after (fun t => (tableGet t.tbl8 0x80#8, tableGet t.tbl8 0xFF#8, t.status))
      (exec .build8 { State.reset with poly := 0x07#32 }) = some (0x89#8, 0xF3#8, 0x00000100#32) := by decide +kernel

/-- V35c and V24: the upper bits of POLY are ignored. -/
theorem test_build16 :
    after (fun t => (tableGet t.tbl16 0x80#8, tableGet t.tbl16 0xFF#8, t.tpoly16))
      (exec .build16 { State.reset with poly := 0xDEAD1021#32 }) = some (0x9188#16, 0x1EF0#16, 0x00001021#32) := by
  decide +kernel

/-- The example of R95. -/
theorem test_build32 :
    after (fun t => (tableGet t.tbl32 0x80#8, tableGet t.tbl32 0xFF#8, t.tpoly32))
      (exec .build32 { State.reset with poly := 0x04C11DB7#32 }) =
        some (0x690CE0EE#32, 0xB1F740B4#32, 0x04C11DB7#32) := by decide +kernel

/-- V31: COMPUTE8.RI and COMPUTE8.RO with the table of 0x07. -/
theorem test_compute8 :
    after State.result (exec (.compute8 true false) (build .w8 (variant 0x07#32 0#32 0#32))) = some 0x04#32 ∧
    after State.result (exec (.compute8 false true) (build .w8 (variant 0x07#32 0#32 0#32))) = some 0x2F#32 := by
  decide +kernel

/-- V35b: the upper bits of XOROUT are ignored. -/
theorem test_compute8_ignores_upper_bits :
    after State.result (exec (.compute8 false false) (build .w8 (variant 0x07#32 0#32 0xFFFFFF55#32))) =
      some 0xA1#32 := by decide +kernel

/-- V27 and V35a: COMPUTE16.RI, and the upper bits of INIT ignored. -/
theorem test_compute16 :
    after State.result (exec (.compute16 true false) (build .w16 (variant 0x1021#32 0xFFFF#32 0#32))) =
      some 0x89F6#32 ∧
    after State.result (exec (.compute16 false false) (build .w16 (variant 0x1021#32 0xABCDFFFF#32 0#32))) =
      some 0x29B1#32 := by decide +kernel

/-- V38: another polynomial in POLY than the table's; no fault. -/
theorem test_compute16_with_another_table :
    after State.result (exec (.compute16 true true)
      { build .w16 (variant 0x1021#32 0#32 0#32) with poly := 0x8005#32 }) = some 0x2189#32 := by decide +kernel

/-- V29 and V30: COMPUTE32.RI and COMPUTE32.RO. -/
theorem test_compute32 :
    after State.result (exec (.compute32 true false)
      (build .w32 (variant 0x04C11DB7#32 0xFFFFFFFF#32 0xFFFFFFFF#32))) = some 0x649C2FD3#32 ∧
    after State.result (exec (.compute32 false true)
      (build .w32 (variant 0x04C11DB7#32 0xFFFFFFFF#32 0xFFFFFFFF#32))) = some 0x1898913F#32 := by decide +kernel

/-- V49, V51, V53: NOTABLE, RANGE, and NOTABLE before RANGE. -/
theorem test_compute_faults :
    after State.status (exec (.compute16 false false) State.reset) = some 0x00000031#32 ∧
    after State.status (exec (.compute8 false false) (build .w8 (placed 0xFFFFFFF8#32 9#32))) = some 0x00000141#32 ∧
    after State.status (exec (.compute8 false false) (placed 0xFFFFFFF8#32 9#32)) = some 0x00000031#32 := by
  decide +kernel

/-- V2 and V10: CRC-8/CDMA2000, and CRC-8/DARC, whose 0x15 settles the width-8 output reflection (C1). -/
theorem test_crc8 :
    after State.result (exec (.crc8 false false) (variant 0x9B#32 0xFF#32 0#32)) = some 0xDA#32 ∧
    after State.result (exec (.crc8 true true) (variant 0x39#32 0#32 0#32)) = some 0x15#32 := by decide +kernel

/-- V4 and V6: CRC-16/AUG-CCITT and ARC. -/
theorem test_crc16 :
    after State.result (exec (.crc16 false false) (variant 0x1021#32 0x1D0F#32 0#32)) = some 0xE5CC#32 ∧
    after State.result (exec (.crc16 true true) (variant 0x8005#32 0#32 0#32)) = some 0xBB3D#32 := by decide +kernel

/-- V8 and V9: CRC-32 and CRC-32C. -/
theorem test_crc32 :
    after State.result (exec (.crc32 true true) (variant 0x04C11DB7#32 0xFFFFFFFF#32 0xFFFFFFFF#32)) =
      some 0xCBF43926#32 ∧
    after State.result (exec (.crc32 true true) (variant 0x1EDC6F41#32 0xFFFFFFFF#32 0xFFFFFFFF#32)) =
      some 0xE3069283#32 := by decide +kernel

/-- V52: CRC8 out of range faults before it builds; R49: an empty sequence past the check reads nothing (V39c). -/
theorem test_crc8_range :
    after (fun t => (t.status, t.tpoly8)) (exec (.crc8 false false) (placed 0xFFFFFFF8#32 9#32)) =
      some (0x00000041#32, 0#32) ∧
    after (fun t => (t.err, t.port)) (exec (.crc8 false false) (placed 0xFFFFFFFF#32 0#32)) = some (false, []) := by
  decide +kernel

/-- V39a: the last byte at 0xFFFFFFFF is legal and is the last address read (R48, R49). -/
theorem test_crc8_top_of_memory :
    after (fun t => (t.err, t.port.head?, t.port.getLast?)) (exec (.crc8 false false) (placed 0xFFFFFFF7#32 9#32)) =
      some (false, some 0xFFFFFFFF#32, some 0xFFFFFFF7#32) := by decide +kernel

/-! ## Host transactions -/

/-- P1 lines 1 and 3: a write of POLY, a read of STATUS. -/
theorem test_host_write_and_read :
    after State.poly (step (facing (.write 0x010#12 32 0x07#32))) = some 0x07#32 ∧
    after State.reads (step (build .w8 (facing (.read 0x004#12 32)))) = some [0x00000100#32] := by decide

/-- P2 line 9: entry 0x80 of TBL32 is read at offset 0xE00. -/
theorem test_host_reads_entry :
    after State.reads (step (build .w32 { facing (.read 0xE00#12 32) with poly := 0x04C11DB7#32 })) =
      some [0x690CE0EE#32] := by decide +kernel

/-- V56: an operand write works in a faulted core; V54: a command is ignored. -/
theorem test_faulted_core :
    after State.poly (step (faultedFacing (.write 0x010#12 32 0x1021#32))) = some 0x1021#32 ∧
    after State.status (step (faultedFacing (.write 0x000#12 32 0x00210001#32))) = some 0x00000011#32 := by decide

/-- R150: reset leaves the faulted state. -/
theorem test_reset_clears_fault : after State.status (step (faultedFacing .reset)) = some 0#32 := by decide

/-- R45: the refusals, by name. -/
theorem test_refusals :
    (match step (facing (.read 0x000#12 32)) with | .refused .readWriteOnly => true | _ => false) = true ∧
    (match step (facing (.write 0x008#12 32 0#32)) with | .refused .writeReadOnly => true | _ => false) = true ∧
    (match step (facing (.read 0x030#12 32)) with | .refused .accessHole => true | _ => false) = true ∧
    (match step (facing (.read 0x006#12 32)) with | .refused .accessAlignment => true | _ => false) = true ∧
    (match step (facing (.write 0x010#12 16 0#32)) with | .refused .accessWidth => true | _ => false) = true := by
  decide

/-- A written byte reads back, and writing what an unlisted address reads as removes the entry. -/
theorem test_memory_write :
    Memory.read (Memory.write checkString 0x1004 0xAA#8) 0x1004 = 0xAA#8 ∧
    (Memory.write checkString 0x1004 Memory.unlisted).length = 8 ∧ Memory.wf checkString := by decide

/-! ## Witnesses: states and operands that meet the hypotheses of the statements

Each is named after its statement; a statement of several clauses has one for each, at a boundary of its range. -/

theorem witness_DecodeOfEncodeIsTheCommand : Instr.wellFormed (.reflect 63) = true ∧ Instr.wellFormed (.crc32 true true) = true := by
  decide

theorem witness_EncodeOfDecodeIsTheWord :
    decode 0x003F0001#32 = .ok (.reflect 63) ∧ decode 0x00000324#32 = .ok (.crc32 true true) := by decide

/-- One word for each clause of R67's list. -/
theorem witness_IllegalWordsRaiseIllcmd :
    (facing (.write 0x000#12 32 0#32)).script = [.write 0x000#12 32 0#32] ∧ (facing .reset).err = false ∧
    IllegalWord 0x00000000#32 ∧ IllegalWord 0x00000005#32 ∧ IllegalWord 0xFFFFFFFF#32 ∧ IllegalWord 0x00000032#32 ∧
    IllegalWord 0x00000042#32 ∧ IllegalWord 0x00000403#32 ∧ IllegalWord 0x80000004#32 ∧ IllegalWord 0x00080011#32 ∧
    IllegalWord 0x00000101#32 ∧ IllegalWord 0x00000202#32 ∧ IllegalWord 0x00010002#32 ∧ IllegalWord 0x00010003#32 ∧
    IllegalWord 0x00010004#32 ∧ ¬ IllegalWord 0x00210001#32 := by
  refine ⟨rfl, rfl, ?_, ?_, ?_, ?_, ?_, ?_, ?_, ?_, ?_, ?_, ?_, ?_, ?_, ?_⟩ <;> unfold IllegalWord <;> decide

theorem witness_CommandWriteRunsTheDecodedCommand :
    (facing (.write 0x000#12 32 0x00000022#32)).script = [.write 0x000#12 32 0x00000022#32] ∧
    decode 0x00000022#32 = .ok .build32 := by decide

theorem witness_EveryCommandCompletes :
    (facing (.write 0x000#12 32 0xFFFFFFFF#32)).script = [.write 0x000#12 32 0xFFFFFFFF#32] := rfl

theorem witness_HostWriteSetsTheOperandRegister (r : OperandReg) :
    (facing (.write (operandOffset r) 32 0x5A#32)).script = [.write (operandOffset r) 32 0x5A#32] := rfl

theorem witness_HostReadReturnsTheRegister :
    (0x004#12, 0#32) ∈ readableRegisters (facing (.read 0x004#12 32)) ∧
    (0x02C#12, 0#32) ∈ readableRegisters (facing (.read 0x02C#12 32)) ∧
    (facing (.read 0x02C#12 32)).script = [.read 0x02C#12 32] := by decide

theorem witness_HostReadReturnsTheTableEntry :
    (build .w8 (facing (.read (entryOffset .w8 255#8) 32))).script = [.read (entryOffset .w8 255#8) 32] ∧
    (build .w8 (facing (.read (entryOffset .w8 255#8) 32))).tv .w8 = true ∧
    (facing (.read (entryOffset .w32 0#8) 32)).tv .w32 = false := by decide

/-- One access for each clause of R45. -/
theorem witness_AccessWithoutMeaningIsRefused :
    (facing (.write 0x010#12 16 0#32)).script = [.write 0x010#12 16 0#32] ∧
    (¬ ∃ r, 0x024#12 = operandOffset r) ∧ (¬ ∃ r, 0x400#12 = operandOffset r) ∧
    (facing (.read 0x030#12 32)).script = [.read 0x030#12 32] ∧
    ¬ (0x030#12).toNat ≤ 0x02C ∧ ¬ 0x400 ≤ (0x3FC#12).toNat ∧ ¬ 0x004 ≤ (0x000#12).toNat ∧ (0x402#12).toNat % 4 ≠ 0 := by
  refine ⟨rfl, ?_, ?_, rfl, ?_⟩
  · rintro ⟨r, h⟩; cases r <;> revert h <;> decide
  · rintro ⟨r, h⟩; cases r <;> revert h <;> decide
  · decide

theorem witness_IdleStepChangesNothing : State.reset.script = [] := rfl

theorem witness_PlatformStoreChangesOneByte :
    Memory.wf (facing (.store 0xFFFFFFFF#32 1#8)).mem ∧
    (facing (.store 0xFFFFFFFF#32 1#8)).script = [.store 0xFFFFFFFF#32 1#8] := ⟨reset_memory_wf, rfl⟩

theorem witness_ResetTransactionRestoresTheResetValues : (faultedFacing .reset).script = [.reset] := rfl

theorem witness_FaultedCoreIgnoresCommandsAndAnswersTheHost :
    (faultedFacing (.write 0x000#12 32 0x00000002#32)).err = true ∧
    (faultedFacing (.write 0x000#12 32 0x00000002#32)).script = [.write 0x000#12 32 0x00000002#32] ∧
    (faultedFacing (.write (operandOffset .dlen) 32 7#32)).script = [.write (operandOffset .dlen) 32 7#32] ∧
    (0x004#12, 0x11#32) ∈ readableRegisters (faultedFacing (.read 0x004#12 32)) ∧
    (build .w16 (faultedFacing (.read (entryOffset .w16 0#8) 32))).err = true ∧
    (build .w16 (faultedFacing (.read (entryOffset .w16 0#8) 32))).tv .w16 = true ∧
    (faultedFacing (.read (entryOffset .w16 0#8) 32)).tv .w16 = false := by decide

theorem witness_FaultsArePrecise :
    exec (.reflect 33) State.reset = .next (raiseFault .nbits State.reset) ∧ State.reset.err = false ∧
    (raiseFault .nbits State.reset).err = true ∧
    (facing (.write 0x000#12 32 0#32)).script = [.write 0x000#12 32 0#32] := ⟨rfl, rfl, rfl, rfl⟩

theorem witness_FaultStaysUntilReset :
    step (faultedFacing (.write 0x000#12 32 2#32)) = .next (withScript [] (faultedFacing (.write 0x000#12 32 2#32))) ∧
    (faultedFacing .reset).err = true ∧ step (faultedFacing .reset) = .next (resetCore (withScript [] (faultedFacing .reset))) ∧
    ∀ rest, (faultedFacing (.write 0x000#12 32 2#32)).script ≠ .reset :: rest :=
  ⟨rfl, rfl, rfl, fun _ h => by cases h⟩

/-- Each clause of R135: an ignored word, an illegal one, NBITS at 33, NOTABLE with the range failing too, RANGE one byte
past the top. -/
theorem witness_ChecksAreMadeInOrder :
    (faultedFacing (.write 0x000#12 32 0#32)).err = true ∧ (∃ e, decode 0x00010003#32 = .error e) ∧ 32 < 33 ∧
    (placed 0xFFFFFFF8#32 9#32).err = false ∧ (placed 0xFFFFFFF8#32 9#32).tv8 = false ∧
    (placed 0xFFFFFFF8#32 9#32).tv16 = false ∧ (placed 0xFFFFFFF8#32 9#32).tv32 = false ∧
    ¬ InRange (placed 0xFFFFFFF8#32 9#32) ∧ ¬ InRange (build .w8 (placed 0xFFFFFFFF#32 2#32)) ∧
    (build .w8 (placed 0xFFFFFFFF#32 2#32)).tv8 = true ∧ ¬ InRange (build .w16 (placed 0xFFFFFFFF#32 2#32)) ∧
    (build .w16 (placed 0xFFFFFFFF#32 2#32)).tv16 = true ∧ ¬ InRange (build .w32 (placed 0xFFFFFFFF#32 2#32)) ∧
    (build .w32 (placed 0xFFFFFFFF#32 2#32)).tv32 = true :=
  ⟨rfl, ⟨_, rfl⟩, by decide, rfl, rfl, rfl, rfl, by decide, by decide, rfl, by decide, rfl, by decide, rfl⟩

theorem witness_ReflectReversesTheLowBits : 32 ≤ 32 ∧ 31 < 32 ∧ 0 ≤ 32 := by decide

theorem witness_ReflectObeysItsLaws : (0xFFFFFFFF#32).toNat < 2 ^ 32 ∧ (0#32).toNat < 2 ^ 0 := by decide

theorem witness_ReflectWritesTheReflectionOfRval :
    63 < 64 ∧ (faultedFacing .reset).err = true ∧ State.reset.err = false ∧ 32 < 33 ∧ 32 ≤ 32 := by decide

theorem witness_OddPolynomialsGiveDistinctEntries :
    (0x07#8).getLsbD 0 = true ∧ entry 0x07#8 0xFF#8 = entry 0x07#8 0xFF#8 := by decide

theorem witness_Build8WritesTheTableOfPoly : (faultedFacing .reset).err = true ∧ State.reset.err = false := by decide
theorem witness_Build16WritesTheTableOfPoly : (faultedFacing .reset).err = true ∧ State.reset.err = false := by decide
theorem witness_Build32WritesTheTableOfPoly : (faultedFacing .reset).err = true ∧ State.reset.err = false := by decide

theorem witness_RebuildingChangesNothing :
    exec .build8 State.reset = .next (build .w8 State.reset) ∧ exec .build16 State.reset = .next (build .w16 State.reset) ∧
    exec .build32 State.reset = .next (build .w32 State.reset) := ⟨rfl, rfl, rfl⟩

theorem witness_FoldStepAtEachWidth : (0x8C#8) = (if true then (reflect ((0x31#8).setWidth 32) 8).setWidth 8 else 0x31#8) := by
  decide

theorem witness_OutputStageReflectsThenXors : 7 < Width.w8.bits ∧ 31 < Width.w32.bits := by decide

theorem witness_EmptySequenceGivesTheFinishedInitialValue :
    (build .w8 (placed 0xFFFFFFFF#32 0#32)).err = false ∧ (build .w8 (placed 0xFFFFFFFF#32 0#32)).dlen = 0#32 ∧
    (build .w8 (placed 0xFFFFFFFF#32 0#32)).tv8 = true ∧ (build .w16 (placed 0xFFFFFFFF#32 0#32)).tv16 = true ∧
    (build .w32 (placed 0xFFFFFFFF#32 0#32)).tv32 = true := by decide

theorem witness_TableDrivenIsBitwise : TableHolds (buildTable (0x1021#16)) 0x1021#16 := tableGet_buildTable _

/-- COMPUTEW, clause by clause: ignored, NOTABLE, RANGE one byte past the top, and in range with the last byte at the
top, with one byte, and with none. -/
theorem witness_Compute8WritesTheChecksum :
    (faultedFacing .reset).err = true ∧ State.reset.err = false ∧ State.reset.tv8 = false ∧
    (build .w8 (placed 0xFFFFFFF8#32 9#32)).tv8 = true ∧ 0 < (build .w8 (placed 0xFFFFFFF8#32 9#32)).dlen.toNat ∧
    2 ^ 32 < (build .w8 (placed 0xFFFFFFF8#32 9#32)).dptr.toNat + (build .w8 (placed 0xFFFFFFF8#32 9#32)).dlen.toNat ∧
    InRange (build .w8 (placed 0xFFFFFFF7#32 9#32)) ∧ InRange (build .w8 (placed 0xFFFFFFFF#32 1#32)) ∧
    InRange (build .w8 (placed 0xFFFFFFFF#32 0#32)) ∧ (build .w8 (placed 0xFFFFFFFF#32 0#32)).err = false := by decide

theorem witness_Compute16WritesTheChecksum :
    (faultedFacing .reset).err = true ∧ State.reset.err = false ∧ State.reset.tv16 = false ∧
    (build .w16 (placed 0xFFFFFFF8#32 9#32)).tv16 = true ∧ 0 < (build .w16 (placed 0xFFFFFFF8#32 9#32)).dlen.toNat ∧
    2 ^ 32 < (build .w16 (placed 0xFFFFFFF8#32 9#32)).dptr.toNat + (build .w16 (placed 0xFFFFFFF8#32 9#32)).dlen.toNat ∧
    InRange (build .w16 (placed 0xFFFFFFF7#32 9#32)) ∧ InRange (build .w16 (placed 0xFFFFFFFF#32 0#32)) ∧
    (build .w16 (placed 0xFFFFFFFF#32 0#32)).err = false := by decide

theorem witness_Compute32WritesTheChecksum :
    (faultedFacing .reset).err = true ∧ State.reset.err = false ∧ State.reset.tv32 = false ∧
    (build .w32 (placed 0xFFFFFFF8#32 9#32)).tv32 = true ∧ 0 < (build .w32 (placed 0xFFFFFFF8#32 9#32)).dlen.toNat ∧
    2 ^ 32 < (build .w32 (placed 0xFFFFFFF8#32 9#32)).dptr.toNat + (build .w32 (placed 0xFFFFFFF8#32 9#32)).dlen.toNat ∧
    InRange (build .w32 (placed 0xFFFFFFF7#32 9#32)) ∧ InRange (build .w32 (placed 0xFFFFFFFF#32 0#32)) ∧
    (build .w32 (placed 0xFFFFFFFF#32 0#32)).err = false := by decide

/-- A state with all three tables built that meets the invariant. -/
def allBuilt : State := build .w8 (build .w16 (build .w32 (variant 0x04C11DB7#32 0#32 0#32)))

theorem witness_invariant : Inv allBuilt := by
  refine ⟨?_, ?_, ⟨?_, fun _ i => ?_⟩, ⟨?_, fun _ i => ?_⟩, ⟨?_, fun _ i => ?_⟩⟩
  · show Memory.wf checkString
    decide
  · decide
  · decide
  · exact tableGet_buildTable _ i
  · decide
  · exact tableGet_buildTable _ i
  · decide
  · exact tableGet_buildTable _ i

theorem witness_ComputeIsTheDivisionByTpoly :
    Inv allBuilt ∧ allBuilt.err = false ∧ InRange allBuilt ∧ allBuilt.tv8 = true ∧ allBuilt.tv16 = true ∧
    allBuilt.tv32 = true := ⟨witness_invariant, rfl, by decide, rfl, rfl, rfl⟩

theorem witness_ComputeDoesNotReadPolynomials :
    exec (.compute8 true true) allBuilt = .next (compute .w8 true true allBuilt) ∧
    exec (.compute16 true true) allBuilt = .next (compute .w16 true true allBuilt) ∧
    exec (.compute32 true true) allBuilt = .next (compute .w32 true true allBuilt) := ⟨rfl, rfl, rfl⟩

theorem witness_UpperOperandBitsAreIgnored :
    (0xDEAD0000#32).setWidth Width.w16.bits = State.reset.poly.setWidth Width.w16.bits ∧
    (0xABCD0000#32).setWidth Width.w16.bits = State.reset.init.setWidth Width.w16.bits ∧
    (0xFFFF0000#32).setWidth Width.w16.bits = State.reset.xorout.setWidth Width.w16.bits ∧
    exec (buildOf .w16) State.reset = .next (build .w16 State.reset) ∧
    exec (computeOf true true .w16) State.reset = .next (compute .w16 true true State.reset) ∧
    exec (crcOf true true .w16) State.reset = .next (crcOneShot .w16 true true State.reset) :=
  ⟨by decide, by decide, by decide, rfl, rfl, rfl⟩

theorem witness_Crc8BuildsAndWritesTheChecksum :
    (faultedFacing .reset).err = true ∧ (placed 0xFFFFFFF8#32 9#32).err = false ∧
    0 < (placed 0xFFFFFFF8#32 9#32).dlen.toNat ∧
    2 ^ 32 < (placed 0xFFFFFFF8#32 9#32).dptr.toNat + (placed 0xFFFFFFF8#32 9#32).dlen.toNat ∧
    InRange (placed 0xFFFFFFF7#32 9#32) ∧ InRange (placed 0xFFFFFFFF#32 0#32) := by decide

theorem witness_Crc16BuildsAndWritesTheChecksum :
    (faultedFacing .reset).err = true ∧ (placed 0xFFFFFFFF#32 2#32).err = false ∧
    0 < (placed 0xFFFFFFFF#32 2#32).dlen.toNat ∧
    2 ^ 32 < (placed 0xFFFFFFFF#32 2#32).dptr.toNat + (placed 0xFFFFFFFF#32 2#32).dlen.toNat ∧
    InRange (placed 0xFFFFFFFF#32 1#32) := by decide

theorem witness_Crc32BuildsAndWritesTheChecksum :
    (faultedFacing .reset).err = true ∧ (placed 1#32 0xFFFFFFFF#32).err = false ∧
    2 ^ 32 < (placed 2#32 0xFFFFFFFF#32).dptr.toNat + (placed 2#32 0xFFFFFFFF#32).dlen.toNat ∧
    InRange (placed 1#32 0xFFFFFFFF#32) := by decide

theorem witness_OneShotIsBuildThenCompute :
    (placed 0xFFFFFFF7#32 9#32).err = false ∧ InRange (placed 0xFFFFFFF7#32 9#32) := by decide

theorem witness_OneShotFaultsBeforeItBuilds :
    (placed 0xFFFFFFF8#32 9#32).err = false ∧ ¬ InRange (placed 0xFFFFFFF8#32 9#32) := by decide

theorem witness_OneShotIsTheDivisionByPoly :
    (variant 0x39#32 0#32 0#32).err = false ∧ InRange (variant 0x39#32 0#32 0#32) := by decide

theorem witness_SequenceIsReadOnceInOrder :
    readsSequence (.crc8 true true) = true ∧ (placed 0xFFFFFFF7#32 9#32).err = false ∧
    exec (.crc8 true true) (placed 0xFFFFFFF7#32 9#32) = .next (crcOneShot .w8 true true (placed 0xFFFFFFF7#32 9#32)) ∧
    (crcOneShot .w8 true true (placed 0xFFFFFFF7#32 9#32)).err = false ∧ readsSequence (.reflect 8) = false ∧
    exec (.crc8 true true) (placed 0xFFFFFFF8#32 9#32) = .next (crcOneShot .w8 true true (placed 0xFFFFFFF8#32 9#32)) ∧
    (crcOneShot .w8 true true (placed 0xFFFFFFF8#32 9#32)).err = true :=
  ⟨rfl, rfl, rfl, by decide +kernel, rfl, rfl, by decide +kernel⟩

theorem witness_CommandsDependOnTheirSequenceAlone :
    (∀ k < (placed 0xFFFFFFFF#32 1#32).dlen.toNat,
      Memory.read [(0, 0x55#8)] ((placed 0xFFFFFFFF#32 1#32).dptr.toNat + k) =
        Memory.read (placed 0xFFFFFFFF#32 1#32).mem ((placed 0xFFFFFFFF#32 1#32).dptr.toNat + k)) ∧
    exec (.crc16 true true) (placed 0xFFFFFFFF#32 1#32) =
      .next (crcOneShot .w16 true true (placed 0xFFFFFFFF#32 1#32)) := by
  refine ⟨fun k hk => ?_, rfl⟩
  have : k = 0 := Nat.lt_one_iff.mp hk
  subst this
  decide

theorem witness_CoreNeverWritesDataMemory :
    exec .build8 State.reset = .next (build .w8 State.reset) ∧
    step (facing (.write 0x000#12 32 2#32)) = .next (build .w8 (withScript [] (facing (.write 0x000#12 32 2#32)))) ∧
    ∀ a b rest, (facing (.write 0x000#12 32 2#32)).script ≠ .store a b :: rest :=
  ⟨rfl, rfl, fun _ _ _ h => by cases h⟩

theorem witness_OperandsChangeByHostWriteOrResetAlone :
    step (facing (.write 0x010#12 32 7#32)) = .next (setOperand .poly 7#32 (withScript [] (facing (.write 0x010#12 32 7#32)))) ∧
    (∀ rest, (facing (.write 0x010#12 32 7#32)).script ≠ .reset :: rest) ∧
    ∀ v rest, (facing (.write 0x010#12 32 7#32)).script ≠ .write (operandOffset .init) 32 v :: rest :=
  ⟨rfl, fun _ h => (by cases h), fun _ _ h => (by cases h)⟩

theorem witness_ResultChangesByItsCommandsAlone :
    exec (.reflect 33) State.reset = .next (raiseFault .nbits State.reset) ∧ (raiseFault .nbits State.reset).err = true ∧
    exec (buildOf .w32) State.reset = .next (build .w32 State.reset) ∧
    step (facing (.write 0x010#12 32 7#32)) = .next (setOperand .poly 7#32 (withScript [] (facing (.write 0x010#12 32 7#32)))) ∧
    (∀ rest, (facing (.write 0x010#12 32 7#32)).script ≠ .reset :: rest) ∧
    ∀ word rest, (facing (.write 0x010#12 32 7#32)).script ≠ .write 0x000#12 32 word :: rest :=
  ⟨rfl, rfl, rfl, rfl, fun _ h => (by cases h), fun _ _ h => (by cases h)⟩

theorem witness_TablesChangeByTheirBuildOrResetAlone :
    step (facing (.write 0x000#12 32 2#32)) = .next (build .w8 (withScript [] (facing (.write 0x000#12 32 2#32)))) ∧
    (∀ rest, (facing (.write 0x000#12 32 2#32)).script ≠ .reset :: rest) ∧
    ∀ word rest i, (facing (.write 0x000#12 32 2#32)).script = .write 0x000#12 32 word :: rest → decode word = .ok i →
      ¬ buildsTable .w16 i := by
  refine ⟨rfl, fun _ h => (by cases h), fun word rest i h hd => ?_⟩
  cases h
  cases hd
  rintro (h | ⟨ri, ro, h⟩) <;> cases h

theorem witness_ValidBitsStayUntilReset :
    step (build .w8 (facing (.read 0x004#12 32))) =
      .next (returnToHost 0x100#32 (withScript [] (build .w8 (facing (.read 0x004#12 32))))) ∧
    (build .w8 (facing (.read 0x004#12 32))).tv .w8 = true ∧
    ∀ rest, (build .w8 (facing (.read 0x004#12 32))).script ≠ .reset :: rest :=
  ⟨rfl, rfl, fun _ h => by cases h⟩

theorem witness_StepKeepsTheInvariant : Inv allBuilt ∧ step allBuilt = .next allBuilt := ⟨witness_invariant, rfl⟩

end Sys2Proof.Tests
end

section
/-! SUPPORT. What each operation does to the groups of fields that claims about the state speak of: the operand
registers, RESULT, and each table memory with its TPOLYW and TVW (spec/10_state.md R19, R20, R26). -/

namespace Sys2Proof.Machine

/-- Table W as builds publish it: TBLW, TPOLYW and TVW together (spec/20_memory.md R57). -/
def State.tableMemory (w : Width) (s : State) : Table w.bits × Word × Bool := (s.tbl w, s.tpoly w, s.tv w)

theorem tableMemory_eq_iff (w : Width) (s t : State) :
    t.tableMemory w = s.tableMemory w ↔ t.tbl w = s.tbl w ∧ t.tpoly w = s.tpoly w ∧ t.tv w = s.tv w := by
  simp [State.tableMemory]

theorem tv_eq_of_tableMemory_eq {w : Width} {s t : State} (h : t.tableMemory w = s.tableMemory w) : t.tv w = s.tv w :=
  ((tableMemory_eq_iff w s t).mp h).2.2

/-! ## The table memories -/

@[simp] theorem setResult_tableMemory (v : Word) (s : State) (w : Width) :
    (setResult v s).tableMemory w = s.tableMemory w := rfl
@[simp] theorem raiseFault_tableMemory (c : FaultCause) (s : State) (w : Width) :
    (raiseFault c s).tableMemory w = s.tableMemory w := rfl
@[simp] theorem withScript_tableMemory (rest : List Transaction) (s : State) (w : Width) :
    (withScript rest s).tableMemory w = s.tableMemory w := rfl
@[simp] theorem setOperand_tableMemory (r : OperandReg) (v : Word) (s : State) (w : Width) :
    (setOperand r v s).tableMemory w = s.tableMemory w := by cases r <;> rfl
@[simp] theorem runEngine_tableMemory (w' : Width) (ri ro : Bool) (s : State) (w : Width) :
    (runEngine w' ri ro s).tableMemory w = s.tableMemory w := by rw [runEngine_eq]; rfl

theorem build_tableMemory_other {w w' : Width} (h : w' ≠ w) (s : State) :
    (build w' s).tableMemory w = s.tableMemory w := by
  match w, w', h with
  | .w8, .w16, _ | .w8, .w32, _ | .w16, .w8, _ | .w16, .w32, _ | .w32, .w8, _ | .w32, .w16, _ => rfl

@[simp] theorem setResult_tv (v : Word) (s : State) (w : Width) : (setResult v s).tv w = s.tv w := rfl
@[simp] theorem raiseFault_tv (c : FaultCause) (s : State) (w : Width) : (raiseFault c s).tv w = s.tv w := rfl
@[simp] theorem withScript_tv (rest : List Transaction) (s : State) (w : Width) :
    (withScript rest s).tv w = s.tv w := rfl
@[simp] theorem setOperand_tv (r : OperandReg) (v : Word) (s : State) (w : Width) :
    (setOperand r v s).tv w = s.tv w := tv_eq_of_tableMemory_eq (setOperand_tableMemory r v s w)
@[simp] theorem runEngine_tv (w' : Width) (ri ro : Bool) (s : State) (w : Width) :
    (runEngine w' ri ro s).tv w = s.tv w := tv_eq_of_tableMemory_eq (runEngine_tableMemory w' ri ro s w)

/-- A build of any width leaves a valid table valid. -/
theorem build_tv_mono {w : Width} {s : State} (w' : Width) (h : s.tv w = true) : (build w' s).tv w = true := by
  by_cases hw : w' = w
  · rw [hw, build_tv]
  · rw [tv_eq_of_tableMemory_eq (build_tableMemory_other hw s), h]

/-! ## The operand registers, RESULT and DMEM -/

@[simp] theorem setResult_operand (v : Word) (s : State) (r : OperandReg) :
    (setResult v s).operand r = s.operand r := rfl
@[simp] theorem raiseFault_operand (c : FaultCause) (s : State) (r : OperandReg) :
    (raiseFault c s).operand r = s.operand r := rfl
@[simp] theorem withScript_operand (rest : List Transaction) (s : State) (r : OperandReg) :
    (withScript rest s).operand r = s.operand r := rfl
@[simp] theorem build_operand (w : Width) (s : State) (r : OperandReg) : (build w s).operand r = s.operand r := by
  cases w <;> rfl
@[simp] theorem runEngine_operand (w : Width) (ri ro : Bool) (s : State) (r : OperandReg) :
    (runEngine w ri ro s).operand r = s.operand r := by rw [runEngine_eq]; rfl
theorem setOperand_operand_other {r r' : OperandReg} (h : r' ≠ r) (v : Word) (s : State) :
    (setOperand r' v s).operand r = s.operand r := by
  cases r <;> simp [State.operand, h]

@[simp] theorem build_result (w : Width) (s : State) : (build w s).result = s.result := setTable_result w _ _ s
@[simp] theorem build_cause (w : Width) (s : State) : (build w s).cause = s.cause := setTable_cause w _ _ s
@[simp] theorem build_mem (w : Width) (s : State) : (build w s).mem = s.mem := setTable_mem w _ _ s
@[simp] theorem runEngine_cause (w : Width) (ri ro : Bool) (s : State) : (runEngine w ri ro s).cause = s.cause := by
  rw [runEngine_eq]
@[simp] theorem runEngine_mem (w : Width) (ri ro : Bool) (s : State) : (runEngine w ri ro s).mem = s.mem := by
  rw [runEngine_eq]

/-! ## Commands -/

/-- What holds before a command and after its body holds after the command, which does its body or nothing. -/
theorem command_preserves {P : State → Prop} {body : State → State} {s : State} (hs : P s) (hb : P (body s)) :
    P (command body s) := by
  rcases command_cases body s with ⟨-, hc⟩ | ⟨-, hc⟩ <;> rwa [hc]

/-- What a command's body keeps, the command keeps. -/
theorem command_keeps {α : Type} (f : State → α) {body : State → State} {s : State} (h : f (body s) = f s) :
    f (command body s) = f s :=
  command_preserves (P := fun t => f t = f s) rfl h

/-- No command writes an operand register (R19). -/
theorem effect_operand (i : Instr) (s : State) (r : OperandReg) : (effect i s).operand r = s.operand r := by
  rcases effect_cases i s with ⟨n, -, h⟩ | ⟨w, -, h⟩ | ⟨w, ri, ro, -, -, -, h⟩ | ⟨w, ri, ro, -, -, h⟩ | ⟨c, -, h⟩ <;>
    simp [h]

/-- Only a build of width W writes table W (R26). -/
theorem effect_tableMemory_of_not_buildsTable {w : Width} {i : Instr} (hb : ¬ buildsTable w i) (s : State) :
    (effect i s).tableMemory w = s.tableMemory w := by
  rcases effect_cases i s with ⟨n, -, h⟩ | ⟨w', rfl, h⟩ | ⟨w', ri, ro, -, -, -, h⟩ | ⟨w', ri, ro, rfl, -, h⟩ | ⟨c, -, h⟩
  · simp [h]
  · have hw : w' ≠ w := fun hw => hb (.inl (hw ▸ rfl))
    rw [h, build_tableMemory_other hw]
  · simp [h]
  · have hw : w' ≠ w := fun hw => hb (.inr ⟨ri, ro, hw ▸ rfl⟩)
    rw [h, runEngine_tableMemory, build_tableMemory_other hw]
  · simp [h]

/-- No command clears a TVW bit (R22). -/
theorem effect_tv_mono {w : Width} {s : State} (i : Instr) (h : s.tv w = true) : (effect i s).tv w = true := by
  rcases effect_cases i s with ⟨n, -, he⟩ | ⟨w', -, he⟩ | ⟨w', ri, ro, -, -, -, he⟩ | ⟨w', ri, ro, -, -, he⟩ | ⟨c, -, he⟩ <;>
    simp [he, h, build_tv_mono]

/-- A command that faults writes no RESULT (R20). -/
theorem effect_result_of_err {i : Instr} {s : State} (hs : s.err = false) (ht : (effect i s).err = true) :
    (effect i s).result = s.result := by
  rcases effect_cases i s with ⟨n, -, h⟩ | ⟨w, -, h⟩ | ⟨w, ri, ro, -, -, -, h⟩ | ⟨w, ri, ro, -, -, h⟩ | ⟨c, -, h⟩
  case inr.inr.inr.inr => rw [h, raiseFault_result]
  all_goals simp [h, hs] at ht

end Sys2Proof.Machine
end

section
/-! SUPPORT. One step by what the host or the platform asked, with the offsets of the window resolved (spec/10_state.md
R11), and what lies outside the core told apart from the core's own state. -/

namespace Sys2Proof.Machine

/-- CMD stands at offset 0 alone. -/
theorem eq_of_locate_cmd {offset : BitVec 12} (h : locate offset = some .cmd) : offset = 0x000#12 := by
  unfold locate at h
  split at h
  · split at h <;> cases h
    exact BitVec.eq_of_toNat_eq ‹_›
  all_goals cases h

/-- An operand register stands at its offset alone. -/
theorem eq_of_locate_operand {offset : BitVec 12} {r : OperandReg} (h : locate offset = some (.operand r)) :
    offset = operandOffset r := by
  unfold locate at h
  split at h
  · split at h <;> cases h <;> exact BitVec.eq_of_toNat_eq ‹_›
  all_goals cases h

/-- `t` is `s` but for what lies outside the core: DMEM, the script, the values read and the count of draws. -/
def SameCore (s t : State) : Prop :=
  t = { s with mem := t.mem, script := t.script, reads := t.reads, draws := t.draws }

/-- Everything one step can be. -/
inductive StepKind (s t : State) : Prop
  /-- A legal word is written to CMD. -/
  | command (rest : List Transaction) (word : Word) (i : Instr) (hs : s.script = .write 0x000#12 32 word :: rest)
      (hd : decode word = .ok i) (ht : t = Machine.command (effect i) (withScript rest s))
  /-- An illegal word is written to CMD. -/
  | illegal (rest : List Transaction) (word : Word) (hs : s.script = .write 0x000#12 32 word :: rest)
      (ht : t = illegalCommand (withScript rest s))
  /-- An operand register is written. -/
  | operand (rest : List Transaction) (r : OperandReg) (v : Word)
      (hs : s.script = .write (operandOffset r) 32 v :: rest) (ht : t = setOperand r v (withScript rest s))
  /-- The core is reset. -/
  | reset (rest : List Transaction) (hs : s.script = .reset :: rest) (ht : t = resetCore (withScript rest s))
  /-- The core is idle or read, or the platform stores into DMEM. -/
  | outside (hcore : SameCore s t)
      (hmem : t.mem = s.mem ∨ ∃ a b rest, s.script = .store a b :: rest ∧ t.mem = Memory.write s.mem a.toNat b)

/-- Every step that answers a next state is of one of these kinds. -/
theorem stepKind_of_step {s t : State} (h : step s = .next t) : StepKind s t := by
  rcases step_cases h with ⟨-, rfl⟩ | ⟨x, rest, u, hs, rfl, hx⟩
  · exact .outside rfl (.inl rfl)
  rcases hx with ⟨offset, data, i, rfl, hl, hd, ht⟩ | ⟨offset, data, e, rfl, hl, -, ht⟩ | ⟨offset, data, r, rfl, hl, ht⟩ |
    ⟨offset, v, -, ht⟩ | ⟨rfl, ht⟩ | ⟨a, b, rfl, rfl⟩
  · cases eq_of_locate_cmd hl
    exact .command rest data i hs hd ht
  · cases eq_of_locate_cmd hl
    exact .illegal rest data hs ht
  · cases eq_of_locate_operand hl
    exact .operand rest r data hs ht
  · rcases ht with rfl | rfl <;> exact .outside rfl (.inl rfl)
  · exact .reset rest hs ht
  · exact .outside rfl (.inr ⟨a, b, rest, hs, rfl⟩)

section
variable {s t : State} (h : SameCore s t)
include h

theorem SameCore.tableMemory (w : Width) : t.tableMemory w = s.tableMemory w := by rw [h]; rfl
theorem SameCore.operand (r : OperandReg) : t.operand r = s.operand r := by rw [h]; rfl
theorem SameCore.result : t.result = s.result := by rw [h]
theorem SameCore.err : t.err = s.err := by rw [h]
theorem SameCore.cause : t.cause = s.cause := by rw [h]

end

end Sys2Proof.Machine
end

section
/-! SUPPORT. What changes the operand registers, RESULT and the tables (spec/10_state.md R19, R20, R22, R26). -/

namespace Sys2Proof.Machine

/-- Settles O50, by the operations a step can be: of these only a write of the register and a reset reach it. -/
theorem operandsChangeByHostWriteOrResetAlone : Obligations.OperandsChangeByHostWriteOrResetAlone := by
  refine ⟨fun i s t r h => ?_, fun s t r h hreset hwrite => ?_⟩
  · rcases exec_next h with ⟨-, rfl⟩ | ⟨-, rfl⟩
    · rfl
    · exact effect_operand i s r
  · cases stepKind_of_step h with
    | command rest word i hs hd ht =>
      rw [ht, command_keeps (·.operand r) (effect_operand i _ r), withScript_operand]
    | illegal rest word hs ht =>
      rw [ht, illegalCommand, command_keeps (·.operand r) (raiseFault_operand _ _ r), withScript_operand]
    | operand rest r' v hs ht =>
      have hne : r' ≠ r := fun hr => hwrite v rest (hr ▸ hs)
      rw [ht, setOperand_operand_other hne, withScript_operand]
    | reset rest hs ht => exact absurd hs (hreset rest)
    | outside hcore hmem => exact hcore.operand r

/-- Settles O51: the commands by the four effects and the faults, the steps by what a step can be. -/
theorem resultChangesByItsCommandsAlone : Obligations.ResultChangesByItsCommandsAlone := by
  refine ⟨fun i s t h ht => ?_, fun s t w h => ?_, fun s t h hreset hcmd => ?_⟩
  · rcases exec_next h with ⟨-, rfl⟩ | ⟨hs, rfl⟩
    · rfl
    · exact effect_result_of_err hs ht
  · rcases exec_next h with ⟨-, rfl⟩ | ⟨-, rfl⟩
    · rfl
    · rw [effect_buildOf, build_result]
  · cases stepKind_of_step h with
    | command rest word i hs hd ht => exact absurd hs (hcmd word rest)
    | illegal rest word hs ht => exact absurd hs (hcmd word rest)
    | operand rest r v hs ht => rw [ht, setOperand_result, withScript_result]
    | reset rest hs ht => exact absurd hs (hreset rest)
    | outside hcore hmem => exact hcore.result

/-- Settles O52: of a command only a build of width W reaches table W, and of the other steps only a reset. -/
theorem tablesChangeByTheirBuildOrResetAlone : Obligations.TablesChangeByTheirBuildOrResetAlone := by
  intro w s t h hreset hbuild
  rw [← tableMemory_eq_iff]
  cases stepKind_of_step h with
  | command rest word i hs hd ht =>
    have hkeep := effect_tableMemory_of_not_buildsTable (hbuild word rest i hs hd) (withScript rest s)
    rw [ht, command_keeps (·.tableMemory w) hkeep, withScript_tableMemory]
  | illegal rest word hs ht =>
    rw [ht, illegalCommand, command_keeps (·.tableMemory w) (raiseFault_tableMemory _ _ w), withScript_tableMemory]
  | operand rest r v hs ht => rw [ht, setOperand_tableMemory, withScript_tableMemory]
  | reset rest hs ht => exact absurd hs (hreset rest)
  | outside hcore hmem => exact hcore.tableMemory w

/-- Settles O53: the one command that writes TVW sets it, and of the other steps only a reset reaches it. -/
theorem validBitsStayUntilReset : Obligations.ValidBitsStayUntilReset := by
  intro w s t h hreset hv
  cases stepKind_of_step h with
  | command rest word i hs hd ht =>
    rw [ht]
    exact command_preserves (P := (·.tv w = true)) hv (effect_tv_mono i hv)
  | illegal rest word hs ht => rwa [ht, illegalCommand, command_keeps (·.tv w) (raiseFault_tv _ _ w), withScript_tv]
  | operand rest r v hs ht => rwa [ht, setOperand_tv, withScript_tv]
  | reset rest hs ht => exact absurd hs (hreset rest)
  | outside hcore hmem => rwa [tv_eq_of_tableMemory_eq (hcore.tableMemory w)]

end Sys2Proof.Machine
end

section
/-! SUPPORT. The invariant, operation by operation (spec/10_state.md R22, R23, spec/20_memory.md R57). -/

namespace Sys2Proof.Machine

/-- The invariant speaks of every table alike. -/
theorem inv_iff (s : State) : Inv s ↔ Memory.wf s.mem ∧ CauseLegal s ∧ ∀ w, TableBound w s := by
  refine ⟨fun h => ⟨h.memory, h.fault, fun w => ?_⟩, fun ⟨hm, hf, ht⟩ => ⟨hm, hf, ht .w8, ht .w16, ht .w32⟩⟩
  cases w with
  | w8 => exact h.table8
  | w16 => exact h.table16
  | w32 => exact h.table32

theorem Inv.tableBound {s : State} (h : Inv s) (w : Width) : TableBound w s := ((inv_iff s).mp h).2.2 w

/-- `TableBound w` speaks of table W, TPOLYW and TVW alone. -/
theorem TableBound.of_tableMemory_eq {w : Width} {s t : State} (h : TableBound w s)
    (ht : t.tableMemory w = s.tableMemory w) : TableBound w t := by
  obtain ⟨htbl, htpoly, htv⟩ := (tableMemory_eq_iff w s t).mp ht
  unfold TableBound
  rwa [htbl, htpoly, htv]

theorem causeLegal_of_eq {s t : State} (h : CauseLegal s) (he : t.err = s.err) (hc : t.cause = s.cause) :
    CauseLegal t := by
  unfold CauseLegal
  rwa [he, hc]

theorem raiseFault_causeLegal (c : FaultCause) (s : State) : CauseLegal (raiseFault c s) := by
  cases c <;> simp [CauseLegal, FaultCause.code]

/-- An operation keeps the invariant when it keeps DMEM's form, ERR, CAUSE and the tables. -/
theorem Inv.of_frame {s t : State} (h : Inv s) (hm : Memory.wf t.mem) (he : t.err = s.err) (hc : t.cause = s.cause)
    (ht : ∀ w, t.tableMemory w = s.tableMemory w) : Inv t :=
  (inv_iff t).mpr ⟨hm, causeLegal_of_eq h.fault he hc, fun w => (h.tableBound w).of_tableMemory_eq (ht w)⟩

theorem widen_toNat_lt (w : Width) (v : BitVec w.bits) : (widen w v).toNat < 2 ^ w.bits := by
  have := v.isLt
  simp only [widen, BitVec.toNat_setWidth]
  exact Nat.lt_of_le_of_lt (Nat.mod_le _ _) this

/-- The low W bits of a W-bit value in a register are that value. -/
theorem lowBits_widen (w : Width) (v : BitVec w.bits) : lowBits w (widen w v) = v := by
  cases w with
  | w8 => exact BitVec.setWidth_setWidth_of_le v (by decide)
  | w16 => exact BitVec.setWidth_setWidth_of_le v (by decide)
  | w32 => exact BitVec.setWidth_setWidth_of_le v (by decide)

/-- What a build of width W leaves in table W is the table of TPOLYW, whatever was there (R57). -/
theorem build_tableBound (w : Width) (s : State) : TableBound w (build w s) := by
  unfold build
  refine ⟨?_, fun _ => ?_⟩
  · rw [setTable_tpoly]
    exact widen_toNat_lt w _
  · rw [setTable_tbl, setTable_tpoly, lowBits_widen]
    exact tableGet_buildTable _

section
variable {s : State} (h : Inv s)
include h

theorem inv_build (w : Width) : Inv (build w s) := by
  refine (inv_iff _).mpr ⟨by simpa using h.memory, causeLegal_of_eq h.fault (build_err w s) (build_cause w s),
    fun w' => ?_⟩
  by_cases hw : w = w'
  · exact hw ▸ build_tableBound w s
  · exact (h.tableBound w').of_tableMemory_eq (build_tableMemory_other hw s)

theorem inv_runEngine (w : Width) (ri ro : Bool) : Inv (runEngine w ri ro s) :=
  h.of_frame (by simpa using h.memory) (by simp) (by simp) (by simp)

theorem inv_setResult (v : Word) : Inv (setResult v s) := h.of_frame h.memory rfl rfl (by simp)

theorem inv_withScript (rest : List Transaction) : Inv (withScript rest s) := h.of_frame h.memory rfl rfl (by simp)

theorem inv_setOperand (r : OperandReg) (v : Word) : Inv (setOperand r v s) :=
  h.of_frame (by simpa using h.memory) (by simp) (by simp) (by simp)

theorem inv_raiseFault (c : FaultCause) : Inv (raiseFault c s) :=
  (inv_iff _).mpr ⟨h.memory, raiseFault_causeLegal c s,
    fun w => (h.tableBound w).of_tableMemory_eq (raiseFault_tableMemory c s w)⟩

theorem inv_resetCore : Inv (resetCore s) where
  memory := h.memory
  fault := by simp [CauseLegal]
  table8 := by simp [TableBound]
  table16 := by simp [TableBound]
  table32 := by simp [TableBound]

theorem inv_effect (i : Instr) : Inv (effect i s) := by
  rcases effect_cases i s with ⟨n, -, he⟩ | ⟨w, -, he⟩ | ⟨w, ri, ro, -, -, -, he⟩ | ⟨w, ri, ro, -, -, he⟩ | ⟨c, -, he⟩ <;>
    rw [he]
  · exact inv_setResult h _
  · exact inv_build h w
  · exact inv_runEngine h w ri ro
  · exact inv_runEngine (inv_build h w) w ri ro
  · exact inv_raiseFault h c

end

/-- Settles O55: each operation a step can be keeps the invariant. -/
theorem stepKeepsTheInvariant : Obligations.StepKeepsTheInvariant := by
  intro s t h hstep
  cases stepKind_of_step hstep with
  | command rest word i hs hd ht =>
    rw [ht]
    have hu := inv_withScript h rest
    exact command_preserves hu (inv_effect hu i)
  | illegal rest word hs ht =>
    rw [ht]
    have hu := inv_withScript h rest
    exact command_preserves hu (inv_raiseFault hu .illcmd)
  | operand rest r v hs ht =>
    rw [ht]
    exact inv_setOperand (inv_withScript h rest) r v
  | reset rest hs ht =>
    rw [ht]
    exact inv_resetCore (inv_withScript h rest)
  | outside hcore hmem =>
    refine h.of_frame ?_ hcore.err hcore.cause hcore.tableMemory
    rcases hmem with hm | ⟨a, b, rest, -, hm⟩ <;> rw [hm]
    · exact h.memory
    · exact Memory.write_wf s.mem a.toNat b a.isLt h.memory

end Sys2Proof.Machine
end

section
/-! SUPPORT. A command of width W uses the low W bits of POLY, INIT and XOROUT alone (spec/10_state.md R13 to R15). -/

namespace Sys2Proof.Machine

/-- Other values in the three operand registers whose upper bits a command of width W ignores. -/
def withOperands (p a x : Word) (s : State) : State := { s with poly := p, init := a, xorout := x }

/-- The three values agree with the registers in the low W bits. -/
structure AgreesBelow (w : Width) (p a x : Word) (s : State) : Prop where
  poly : lowBits w p = lowBits w s.poly
  init : lowBits w a = lowBits w s.init
  xorout : lowBits w x = lowBits w s.xorout

section
variable {w : Width} {p a x : Word} {s : State} (h : AgreesBelow w p a x s)
include h

theorem build_withOperands : build w (withOperands p a x s) = withOperands p a x (build w s) := by
  have hp : lowBits w (withOperands p a x s).poly = lowBits w s.poly := h.poly
  unfold build
  rw [hp]
  cases w <;> rfl

theorem runEngine_withOperands (ri ro : Bool) :
    runEngine w ri ro (withOperands p a x s) = withOperands p a x (runEngine w ri ro s) := by
  have ha : lowBits w (withOperands p a x s).init = lowBits w s.init := h.init
  have hx : lowBits w (withOperands p a x s).xorout = lowBits w s.xorout := h.xorout
  rw [runEngine_eq, runEngine_eq, ha, hx]
  rfl

theorem AgreesBelow.of_build (w' : Width) : AgreesBelow w p a x (build w' s) := by
  obtain ⟨hp, ha, hx⟩ := h
  exact ⟨by simpa [build] using hp, by simpa [build] using ha, by simpa [build] using hx⟩

theorem compute_withOperands (ri ro : Bool) :
    compute w ri ro (withOperands p a x s) = withOperands p a x (compute w ri ro s) := by
  have htv : (withOperands p a x s).tv w = s.tv w := rfl
  have hpast : pastTop (withOperands p a x s) = pastTop s := rfl
  unfold compute
  rw [htv, hpast, runEngine_withOperands h]
  split
  · split <;> rfl
  · rfl

theorem crcOneShot_withOperands (ri ro : Bool) :
    crcOneShot w ri ro (withOperands p a x s) = withOperands p a x (crcOneShot w ri ro s) := by
  have hpast : pastTop (withOperands p a x s) = pastTop s := rfl
  unfold crcOneShot
  rw [hpast, build_withOperands h, runEngine_withOperands (h.of_build w)]
  split <;> rfl

end

theorem command_withOperands {body : State → State} {p a x : Word} {s : State}
    (hb : body (withOperands p a x s) = withOperands p a x (body s)) :
    command body (withOperands p a x s) = withOperands p a x (command body s) := by
  have herr : (withOperands p a x s).err = s.err := rfl
  unfold command
  rw [herr, hb]
  split <;> rfl

/-- Settles O39: the bodies of the three commands of width W commute with the change of the upper bits. -/
theorem upperOperandBitsAreIgnored : Obligations.UpperOperandBitsAreIgnored := by
  intro s t p a x w ri ro i hp ha hx hi ht
  have h : AgreesBelow w p a x s := ⟨hp, ha, hx⟩
  have hbody : effect i (withOperands p a x s) = withOperands p a x (effect i s) := by
    rcases hi with rfl | rfl | rfl
    · rw [effect_buildOf, build_withOperands h]
    · rw [effect_computeOf, compute_withOperands h]
    · rw [effect_crcOf, crcOneShot_withOperands h]
  rw [exec_eq] at ht
  cases ht
  exact (exec_eq i _).trans (congrArg Host.Outcome.next (command_withOperands hbody))

end Sys2Proof.Machine
end

section
/-! SUPPORT. The STATUS word and the reset state (spec/10_state.md R22, R31). -/

namespace Sys2Proof.Machine

/-- STATUS bit by bit (R22). -/
theorem status_getLsbD (s : State) (k : Nat) : s.status.getLsbD k =
    if k = 0 then s.err else if k < 4 then false else if k < 8 then s.cause.getLsbD (k - 4)
    else if k = 8 then s.tv8 else if k = 9 then s.tv16 else if k = 10 then s.tv32 else false := by
  have happend : s.status.getLsbD k =
      BitVec.getLsbD (0#21 ++ BitVec.ofBool s.tv32 ++ BitVec.ofBool s.tv16 ++ BitVec.ofBool s.tv8 ++ s.cause ++ 0#3 ++
        BitVec.ofBool s.err) k := rfl
  simp only [happend, BitVec.getLsbD_append, BitVec.getLsbD_ofBool, BitVec.getLsbD_zero]
  grind

/-- Settles O12, from STATUS bit by bit; the fields of more than one bit by each of their bits. -/
theorem statusWordHoldsItsFields : Obligations.StatusWordHoldsItsFields := by
  intro s
  refine ⟨status_getLsbD s 0, ?_, ?_, status_getLsbD s 8, status_getLsbD s 9, status_getLsbD s 10, ?_⟩
  all_goals
    ext i hi
    rw [BitVec.getElem_extractLsb', status_getLsbD]
    grind

/-- Settles O15: the reset state has these values in its fields, and STATUS is put together from zeros. -/
theorem resetValues : Obligations.ResetValues :=
  ⟨by decide, rfl, rfl, rfl, rfl, rfl, rfl, rfl, rfl, rfl, rfl⟩

end Sys2Proof.Machine
end

section
/-! SUPPORT. The accesses of the host by the offsets of the window: which of them the core answers, and with what
(spec/10_state.md R11, spec/20_memory.md R41, R42, R45). -/

namespace Sys2Proof.Machine

/-- A step performs the transaction that stands first in the script. -/
theorem step_of_script {s : State} {x : Transaction} {rest : List Transaction} (hs : s.script = x :: rest) :
    step s = perform x (withScript rest s) := by
  unfold step nextTransaction
  rw [hs]

/-- Everything an access can be: refused, or 32 bits wide, aligned and up to what stands at its offset. -/
theorem access_cases (offset : BitVec 12) (bits : Nat) (act : Location → Host.Outcome State Fault Refusal) :
    (∃ r, access offset bits act = .refused r) ∨
    (bits = 32 ∧ offset.toNat % 4 = 0 ∧ ∃ l, locate offset = some l ∧ access offset bits act = act l) := by
  by_cases hb : bits = 32
  · by_cases ha : offset.toNat % 4 = 0
    · cases hl : locate offset with
      | none => exact .inl ⟨.accessHole, by simp [access, hb, ha, hl]⟩
      | some l => exact .inr ⟨hb, ha, l, rfl, by simp [access, hb, ha, hl]⟩
    · exact .inl ⟨.accessAlignment, by simp [access, hb, ha]⟩
  · exact .inl ⟨.accessWidth, by simp [access, hb]⟩

/-- A write of 32 bits to an operand register's offset acts on that register. -/
theorem access_operandOffset (r : OperandReg) (act : Location → Host.Outcome State Fault Refusal) :
    access (operandOffset r) 32 act = act (.operand r) := by
  cases r <;> rfl

theorem step_operandWrite {s : State} {rest : List Transaction} {v : Word} (r : OperandReg)
    (hs : s.script = .write (operandOffset r) 32 v :: rest) : step s = .next (setOperand r v (withScript rest s)) := by
  rw [step_of_script hs, perform, access_operandOffset, hostWrite]

/-- Settles O8: one lemma for the write of any operand register, at the six offsets of R11. -/
theorem hostWriteSetsTheOperandRegister : Obligations.HostWriteSetsTheOperandRegister :=
  fun _ _ _ => ⟨step_operandWrite .rval, step_operandWrite .poly, step_operandWrite .init, step_operandWrite .xorout,
    step_operandWrite .dptr, step_operandWrite .dlen⟩

/-- A read of 32 bits at the offset of any of the eleven readable registers returns its value. -/
theorem access_hostRead_readable (s : State) :
    ∀ p ∈ readableRegisters s, access p.1 32 (hostRead s) = .next (returnToHost p.2 s) := by
  simp only [readableRegisters, List.forall_mem_cons]
  exact ⟨rfl, rfl, rfl, rfl, rfl, rfl, rfl, rfl, rfl, rfl, rfl, by simp⟩

/-- Settles O9: taking the transaction from the script changes no readable register. -/
theorem hostReadReturnsTheRegister : Obligations.HostReadReturnsTheRegister := by
  intro s rest offset v hv hs
  have hkeep : readableRegisters (withScript rest s) = readableRegisters s := rfl
  rw [step_of_script hs, perform, access_hostRead_readable _ (offset, v) (hkeep ▸ hv)]
  rfl

/-- Everything but CMD stands at the offset of a readable register or in the tables. -/
theorem offset_of_locate_ne_cmd {offset : BitVec 12} {l : Location} (h : locate offset = some l) (hl : l ≠ .cmd) :
    0x004 ≤ offset.toNat ∧ offset.toNat ≤ 0x02C ∨ 0x400 ≤ offset.toNat := by
  have hregion : (offset.extractLsb' 10 2).toNat = offset.toNat / 2 ^ 10 % 4 := by
    rw [BitVec.extractLsb'_toNat, Nat.shiftRight_eq_div_pow]
  unfold locate at h
  split at h
  case h_1 =>
    split at h
    case h_1 => cases h; exact absurd rfl hl
    case h_13 => cases h
    all_goals omega
  case h_4 hne _ _ =>
    have hne : (offset.extractLsb' 10 2).toNat ≠ 0 := hne
    omega
  all_goals omega

/-- A host write that is not refused is to CMD or an operand register. -/
theorem hostWrite_refused_or (data : Word) (s : State) (l : Location) :
    (∃ r, hostWrite data s l = .refused r) ∨ l = .cmd ∨ ∃ r, l = .operand r := by
  cases l with
  | cmd => exact .inr (.inl rfl)
  | operand r => exact .inr (.inr ⟨r, rfl⟩)
  | status => exact .inl ⟨_, rfl⟩
  | result => exact .inl ⟨_, rfl⟩
  | tpoly w => exact .inl ⟨_, rfl⟩
  | entry w i => exact .inl ⟨_, rfl⟩

/-- Settles O11: an access that passes the checks of its form finds a location, and for each location either the
access is one the statement excepts or the location refuses it. -/
theorem accessWithoutMeaningIsRefused : Obligations.AccessWithoutMeaningIsRefused := by
  intro s rest offset bits
  refine ⟨fun data hs hno => ?_, fun hs hno => ?_⟩ <;> rw [step_of_script hs, perform]
  · rcases access_cases offset bits (hostWrite data (withScript rest s)) with hr | ⟨hb, -, l, hl, he⟩
    · exact hr
    rw [he]
    rcases hostWrite_refused_or data (withScript rest s) l with hr | rfl | ⟨r, rfl⟩
    · exact hr
    · exact absurd ⟨hb, .inl (eq_of_locate_cmd hl)⟩ hno
    · exact absurd ⟨hb, .inr ⟨r, eq_of_locate_operand hl⟩⟩ hno
  · rcases access_cases offset bits (hostRead (withScript rest s)) with hr | ⟨hb, ha, l, hl, he⟩
    · exact hr
    by_cases hcmd : l = .cmd
    · exact ⟨.readWriteOnly, by rw [he, hcmd, hostRead]⟩
    · exact absurd ⟨hb, ha, offset_of_locate_ne_cmd hl hcmd⟩ hno

end Sys2Proof.Machine
end

section
/-! SUPPORT. The DMEM port: the addresses a command reads on it (spec/20_memory.md R46, R48, R49). -/

namespace Sys2Proof.Machine

/-- In range, no address of the sequence wraps. -/
theorem sequenceAddress_toNat {s : State} (h : InRange s) {k : Nat} (hk : k < s.dlen.toNat) :
    (BitVec.ofNat 32 (s.dptr.toNat + k)).toNat = s.dptr.toNat + k := by
  rw [BitVec.toNat_ofNat]
  omega

theorem sequenceAddresses_increasing {s : State} (h : InRange s) :
    (sequenceAddresses s).Pairwise (fun a b => a.toNat < b.toNat) := by
  refine List.pairwise_map.mpr (List.Pairwise.imp_of_mem (fun hj hk hjk => ?_) List.pairwise_lt_range)
  rw [sequenceAddress_toNat h (List.mem_range.mp hj), sequenceAddress_toNat h (List.mem_range.mp hk)]
  omega

theorem sequenceAddresses_bounds {s : State} (h : InRange s) {a : Word} (ha : a ∈ sequenceAddresses s) :
    s.dptr.toNat ≤ a.toNat ∧ a.toNat < s.dptr.toNat + s.dlen.toNat := by
  obtain ⟨k, hk, rfl⟩ := List.mem_map.mp ha
  have hk := List.mem_range.mp hk
  rw [sequenceAddress_toNat h hk]
  omega

@[simp] theorem build_sequenceAddresses (w : Width) (s : State) : sequenceAddresses (build w s) = sequenceAddresses s := by
  cases w <;> rfl
@[simp] theorem build_port (w : Width) (s : State) : (build w s).port = s.port := setTable_port w _ _ s
theorem runEngine_port (w : Width) (ri ro : Bool) {s : State} (h : InRange s) :
    (runEngine w ri ro s).port = (sequenceAddresses s).reverse ++ s.port := by
  rw [runEngine_inRange w ri ro s h]

@[simp] theorem readsSequence_buildOf (w : Width) : readsSequence (buildOf w) = false := by cases w <;> rfl
@[simp] theorem readsSequence_computeOf (ri ro : Bool) (w : Width) : readsSequence (computeOf ri ro w) = true := by
  cases w <;> rfl
@[simp] theorem readsSequence_crcOf (ri ro : Bool) (w : Width) : readsSequence (crcOf ri ro w) = true := by
  cases w <;> rfl

/-- What a command's body does on the port: nothing, and then it faults or is a REFLECT or a BUILD; or, without a
fault and in range, it reads its sequence. -/
theorem effect_port_cases (i : Instr) {s : State} (hs : s.err = false) :
    ((readsSequence i = false ∨ (effect i s).err = true) ∧ (effect i s).port = s.port) ∨
    (readsSequence i = true ∧ (effect i s).err = false ∧ InRange s ∧
      (effect i s).port = (sequenceAddresses s).reverse ++ s.port) := by
  rcases effect_cases i s with ⟨n, rfl, h⟩ | ⟨w, rfl, h⟩ | ⟨w, ri, ro, rfl, hin, -, h⟩ | ⟨w, ri, ro, rfl, hin, h⟩ |
    ⟨c, -, h⟩ <;> rw [h]
  · exact .inl ⟨.inl rfl, rfl⟩
  · exact .inl ⟨.inl (by simp), by simp⟩
  · exact .inr ⟨by simp, by simp [hs], hin, runEngine_port w ri ro hin⟩
  · have hport := runEngine_port w ri ro ((build_inRange w s).mpr hin)
    exact .inr ⟨by simp, by simp [hs], hin, by simpa using hport⟩
  · exact .inl ⟨.inr rfl, rfl⟩

/-- Settles O47: the port by what a command's body does on it; an ignored command changes nothing. -/
theorem sequenceIsReadOnceInOrder : Obligations.SequenceIsReadOnceInOrder := by
  intro i s t h
  rcases exec_next h with ⟨herr, rfl⟩ | ⟨hok, rfl⟩
  · exact ⟨fun _ hok _ => absurd herr (by simp [hok]), fun _ => rfl⟩
  rcases effect_port_cases i hok with ⟨hnone, hport⟩ | ⟨hreads, hgood, hin, hport⟩
  · refine ⟨fun hreads _ hgood => ?_, fun _ => hport⟩
    simp [hreads, hgood] at hnone
  · refine ⟨fun _ _ _ => ⟨hport, sequenceAddresses_increasing hin, fun _ => sequenceAddresses_bounds hin⟩, fun hnone => ?_⟩
    simp [hreads, hgood] at hnone

end Sys2Proof.Machine
end

section
/-! SUPPORT. A command depends on no byte of DMEM outside its sequence (spec/20_memory.md R49). -/

namespace Sys2Proof.Machine

/-- Another DMEM under the same core. -/
def withMemory (m : Memory) (s : State) : State := { s with mem := m }

/-- DMEM holds the same bytes in the sequence as `m` does. -/
def AgreesOnSequence (m : Memory) (s : State) : Prop :=
  ∀ k < s.dlen.toNat, Memory.read m (s.dptr.toNat + k) = Memory.read s.mem (s.dptr.toNat + k)

theorem build_withMemory (w : Width) (m : Memory) (s : State) : build w (withMemory m s) = withMemory m (build w s) := by
  cases w <;> rfl

/-- A command commutes with a change of the state that its body commutes with and that leaves ERR alone. -/
theorem command_comm {f body : State → State} {s : State} (herr : (f s).err = s.err) (hb : body (f s) = f (body s)) :
    command body (f s) = f (command body s) := by
  unfold command
  rw [herr, hb]
  split <;> rfl

section
variable {m : Memory} {s : State} (h : AgreesOnSequence m s)
include h

theorem AgreesOnSequence.sequenceBytes : sequenceBytes (withMemory m s) = sequenceBytes s :=
  List.map_congr_left fun k hk => h k (List.mem_range.mp hk)

theorem AgreesOnSequence.of_build (w : Width) : AgreesOnSequence m (build w s) := by
  cases w <;> exact h

theorem runEngine_withMemory (w : Width) (ri ro : Bool) (hin : InRange s) :
    runEngine w ri ro (withMemory m s) = withMemory m (runEngine w ri ro s) := by
  rw [runEngine_inRange w ri ro _ (show InRange (withMemory m s) from hin), runEngine_inRange w ri ro s hin,
    h.sequenceBytes]
  rfl

theorem compute_withMemory (w : Width) (ri ro : Bool) :
    compute w ri ro (withMemory m s) = withMemory m (compute w ri ro s) := by
  have htv : (withMemory m s).tv w = s.tv w := rfl
  have hpast : pastTop (withMemory m s) = pastTop s := rfl
  unfold compute
  rw [htv, hpast]
  split
  · split
    · rfl
    · rename_i hp
      exact runEngine_withMemory h w ri ro ((pastTop_eq_false s).mp (Bool.eq_false_iff.mpr hp))
  · rfl

theorem crcOneShot_withMemory (w : Width) (ri ro : Bool) :
    crcOneShot w ri ro (withMemory m s) = withMemory m (crcOneShot w ri ro s) := by
  have hpast : pastTop (withMemory m s) = pastTop s := rfl
  unfold crcOneShot
  rw [hpast, build_withMemory]
  split
  · rfl
  · rename_i hp
    have hin := (pastTop_eq_false s).mp (Bool.eq_false_iff.mpr hp)
    exact runEngine_withMemory (h.of_build w) w ri ro ((build_inRange w s).mpr hin)

theorem effect_withMemory (i : Instr) : effect i (withMemory m s) = withMemory m (effect i s) := by
  rcases instr_cases i with ⟨n, rfl⟩ | ⟨w, rfl⟩ | ⟨w, ri, ro, rfl⟩ | ⟨w, ri, ro, rfl⟩
  · simp only [effect]
    split <;> rfl
  · rw [effect_buildOf, build_withMemory]
  · rw [effect_computeOf, compute_withMemory h]
  · rw [effect_crcOf, crcOneShot_withMemory h]

end

/-- Settles O48: the body of every command commutes with the change of DMEM outside the sequence. -/
theorem commandsDependOnTheirSequenceAlone : Obligations.CommandsDependOnTheirSequenceAlone := by
  intro i s t m h ht
  rw [exec_eq] at ht
  cases ht
  exact (exec_eq i _).trans (congrArg Host.Outcome.next (command_comm rfl (effect_withMemory h i)))

end Sys2Proof.Machine
end

section
/-! SUPPORT. The command word: encoder and decoder are inverse to each other, the decoder is the opcode map, and the
illegal words are those of R67's list (spec/30_encoding.md R61 to R67). -/

namespace Sys2Proof

open Machine

/-! ## The word of a command as a number -/

/-- The WSEL that selects a width (R63). -/
def wselOf : Width → Nat
  | .w8 => 0
  | .w16 => 1
  | .w32 => 2

theorem wselOf_le (w : Width) : wselOf w ≤ 2 := by cases w <;> decide

theorem wellFormed_reflect {n : Nat} : (Instr.reflect n).wellFormed = true ↔ n < 64 := decide_eq_true_iff
theorem wellFormed_buildOf (w : Width) : (buildOf w).wellFormed = true := by cases w <;> rfl
theorem wellFormed_computeOf (ri ro : Bool) (w : Width) : (computeOf ri ro w).wellFormed = true := by cases w <;> rfl
theorem wellFormed_crcOf (ri ro : Bool) (w : Width) : (crcOf ri ro w).wellFormed = true := by cases w <;> rfl

theorem encode_reflect_toNat {n : Nat} (h : n < 64) : (encode (.reflect n)).toNat = 1 + n * 2 ^ 16 := by
  have hfit : n * 0x10000 % 2 ^ 32 = 2 ^ 16 * n := by omega
  have hor : 2 ^ 16 * n + 1 = 2 ^ 16 * n ||| 1 := Nat.two_pow_add_eq_or_of_lt (by decide) n
  calc (encode (.reflect n)).toNat
      = 1 ||| n * 0x10000 % 2 ^ 32 := by rw [encode, BitVec.toNat_or, BitVec.toNat_ofNat, BitVec.toNat_ofNat]
    _ = 2 ^ 16 * n + 1 := by rw [hfit, hor, Nat.or_comm]
    _ = 1 + n * 2 ^ 16 := by omega

theorem encode_buildOf_toNat (w : Width) : (encode (buildOf w)).toNat = 2 + wselOf w * 2 ^ 4 := by
  cases w <;> rfl

theorem encode_computeOf_toNat (ri ro : Bool) (w : Width) :
    (encode (computeOf ri ro w)).toNat = 3 + wselOf w * 2 ^ 4 + ri.toNat * 2 ^ 8 + ro.toNat * 2 ^ 9 := by
  revert ri ro; cases w <;> decide

theorem encode_crcOf_toNat (ri ro : Bool) (w : Width) :
    (encode (crcOf ri ro w)).toNat = 4 + wselOf w * 2 ^ 4 + ri.toNat * 2 ^ 8 + ro.toNat * 2 ^ 9 := by
  revert ri ro; cases w <;> decide

/-- A bit of a word as a number. -/
theorem toNat_getLsbD (word : Word) (k : Nat) : (word.getLsbD k).toNat = word.toNat / 2 ^ k % 2 := by
  rw [BitVec.getLsbD, Nat.toNat_testBit]

/-! ## Decoding the word of a command -/

theorem decode_encode_reflect {n : Nat} (h : n < 64) : decode (encode (.reflect n)) = .ok (.reflect n) := by
  have hzero : (1 + n * 2 ^ 16) / 2 ^ 6 % 4 = 0 ∧ (1 + n * 2 ^ 16) / 2 ^ 10 % 64 = 0 ∧
      (1 + n * 2 ^ 16) / 2 ^ 22 = 0 := by omega
  have hop : (1 + n * 2 ^ 16) % 16 = 1 := by omega
  have hwsel : (1 + n * 2 ^ 16) / 2 ^ 4 % 4 = 0 := by omega
  have hri : (1 + n * 2 ^ 16) / 2 ^ 8 % 2 = 0 := by omega
  have hro : (1 + n * 2 ^ 16) / 2 ^ 9 % 2 = 0 := by omega
  have hnbits : (1 + n * 2 ^ 16) / 2 ^ 16 % 64 = n := by omega
  rw [decode_by_fields, encode_reflect_toNat h, if_pos hzero, hop, hwsel, hri, hro, hnbits]
  rfl

/-- Settles O2: REFLECT by the fields of its word, the other families by their three widths and two flags. -/
theorem decodeOfEncodeIsTheCommand : Obligations.DecodeOfEncodeIsTheCommand := by
  intro i h
  rcases instr_cases i with ⟨n, rfl⟩ | ⟨w, rfl⟩ | ⟨w, ri, ro, rfl⟩ | ⟨w, ri, ro, rfl⟩
  · exact decode_encode_reflect (wellFormed_reflect.mp h)
  · cases w <;> decide
  · revert ri ro; cases w <;> decide
  · revert ri ro; cases w <;> decide

/-- Settles O1: each word is the word of its command. -/
theorem exampleWordsDecodeToTheirCommands : Obligations.ExampleWordsDecodeToTheirCommands :=
  have h := decodeOfEncodeIsTheCommand
  ⟨h (.reflect 8) rfl, h (.reflect 32) rfl, h (.reflect 0) rfl, h (.reflect 33) rfl, h .build8 rfl, h .build16 rfl,
    h .build32 rfl, h (.compute8 true false) rfl, h (.compute16 false false) rfl, h (.compute16 false true) rfl,
    h (.compute32 true true) rfl, h (.crc8 true true) rfl, h (.crc16 false false) rfl, h (.crc32 true true) rfl⟩

/-! ## What a word decodes to -/

/-- A right answer of a decoder to a word: the well-formed command whose word it is, or the rejection of an illegal
word. -/
inductive RightAnswer (word : Word) : Except DecodeReject Instr → Prop
  | command (i : Instr) (hwf : i.wellFormed = true) (henc : encode i = word) : RightAnswer word (.ok i)
  | rejected (e : DecodeReject) (h : IllegalWord word) : RightAnswer word (.error e)

/-- The command of the width in the WSEL field is the right answer to a word that is the command's word for whatever
width the field holds; WSEL = 3 is illegal in every word. -/
theorem rightAnswer_withWidth {word : Word} {f : Width → Instr} (hwf : ∀ w, (f w).wellFormed = true)
    (henc : ∀ w, word.toNat / 2 ^ 4 % 4 = wselOf w → (encode (f w)).toNat = word.toNat) :
    RightAnswer word (withWidth (fieldWsel word) f) := by
  unfold withWidth
  rcases selectWidth_cases word with ⟨hw, h⟩ | ⟨hw, h⟩ | ⟨hw, h⟩ | ⟨hw, h⟩ <;> rw [h]
  · exact .command _ (hwf .w8) (BitVec.eq_of_toNat_eq (henc .w8 hw))
  · exact .command _ (hwf .w16) (BitVec.eq_of_toNat_eq (henc .w16 hw))
  · exact .command _ (hwf .w32) (BitVec.eq_of_toNat_eq (henc .w32 hw))
  · exact .rejected _ (.inr (.inr (.inl hw)))

/-- The decoder answers every word rightly. -/
theorem decode_rightAnswer (word : Word) : RightAnswer word (decode word) := by
  have hlt := word.isLt
  have hri := toNat_getLsbD word 8
  have hro := toNat_getLsbD word 9
  rw [decode_by_fields]
  split
  case isFalse => exact .rejected _ (by unfold IllegalWord; omega)
  case isTrue hzero =>
    split
    case h_1 hop =>
      split
      · have hn : word.toNat / 2 ^ 16 % 64 < 64 := Nat.mod_lt _ (by decide)
        exact .command _ (wellFormed_reflect.mpr hn)
          (BitVec.eq_of_toNat_eq (by rw [encode_reflect_toNat hn]; omega))
      · exact .rejected _ (by unfold IllegalWord; omega)
    case h_2 hop =>
      split
      · exact rightAnswer_withWidth wellFormed_buildOf fun w hw => by rw [encode_buildOf_toNat]; omega
      · exact .rejected _ (by unfold IllegalWord; omega)
    case h_3 hop =>
      split
      · exact rightAnswer_withWidth (wellFormed_computeOf _ _) fun w hw => by rw [encode_computeOf_toNat]; omega
      · exact .rejected _ (by unfold IllegalWord; omega)
    case h_4 hop =>
      split
      · exact rightAnswer_withWidth (wellFormed_crcOf _ _) fun w hw => by rw [encode_crcOf_toNat]; omega
      · exact .rejected _ (by unfold IllegalWord; omega)
    case h_5 h1 h2 h3 h4 =>
      rw [imp_false] at h1 h2 h3 h4
      exact .rejected _ (by unfold IllegalWord; omega)

/-- Settles O3, from the decoder's right answer to the word. -/
theorem encodeOfDecodeIsTheWord : Obligations.EncodeOfDecodeIsTheWord := by
  intro word i h
  cases h ▸ decode_rightAnswer word with
  | command _ hwf henc => exact ⟨henc, hwf⟩

theorem decode_eq_ok_iff {word : Word} {i : Instr} :
    decode word = .ok i ↔ i.wellFormed = true ∧ encode i = word := by
  constructor
  · exact fun h => (encodeOfDecodeIsTheWord word i h).symm
  · rintro ⟨hwf, rfl⟩
    exact decodeOfEncodeIsTheCommand i hwf

/-! ## The opcode map -/

/-- The encoder puts the two reflection bits back into a word that the mask of R65 has cleared them in. -/
theorem withReflection_and_mask (word : Word) :
    withReflection (word &&& 0xFFFFFCFF#32) (word.getLsbD 8) (word.getLsbD 9) = word := by
  have hri : (if word.getLsbD 8 then 0x100#32 else 0#32) = word &&& 0x100#32 := (BitVec.and_twoPow word 8).symm
  have hro : (if word.getLsbD 9 then 0x200#32 else 0#32) = word &&& 0x200#32 := (BitVec.and_twoPow word 9).symm
  rw [withReflection, hri, hro, ← BitVec.and_or_distrib_left, ← BitVec.and_or_distrib_left]
  exact BitVec.and_allOnes

/-- A field of `len` bits, left in its place. -/
theorem div_mod_mul_eq_and (n start len : Nat) :
    n / 2 ^ start % 2 ^ len * 2 ^ start = n &&& (2 ^ len - 1) * 2 ^ start := by
  apply Nat.eq_of_testBit_eq
  intro k
  simp only [Nat.testBit_and, Nat.testBit_mul_two_pow, Nat.testBit_mod_two_pow, Nat.testBit_div_two_pow,
    Nat.testBit_two_pow_sub_one]
  by_cases h : start ≤ k <;> simp [h, Bool.and_comm]

/-- The encoder puts NBITS back into a word that the mask of R65 has cleared it in. -/
theorem nbits_or_and_mask (word : Word) :
    word &&& 0xFFC0FFFF#32 ||| BitVec.ofNat 32 (word.toNat / 2 ^ 16 % 64 * 0x10000) = word := by
  have hfit : word.toNat / 2 ^ 16 % 64 * 0x10000 < 2 ^ 32 := by omega
  have hnbits : BitVec.ofNat 32 (word.toNat / 2 ^ 16 % 64 * 0x10000) = word &&& 0x003F0000#32 :=
    BitVec.eq_of_toNat_eq ((Nat.mod_eq_of_lt hfit).trans (div_mod_mul_eq_and word.toNat 16 6))
  rw [hnbits, ← BitVec.and_or_distrib_left]
  exact BitVec.and_allOnes

/-- A row of the opcode map: the word of the row's command matches the row, and a word that matches it is the word
of the row's command. -/
theorem opcodeMap_row {word : Word} {i : Instr} (hwf : i.wellFormed = true) (hrow : Laws.RowMatch.Statement i)
    (henc : word &&& rowMask i = rowMatch i → encode i = word) :
    word &&& rowMask i = rowMatch i ↔ decode word = .ok i := by
  rw [decode_eq_ok_iff]
  constructor
  · exact fun h => ⟨hwf, henc h⟩
  · rintro ⟨-, rfl⟩
    exact hrow hwf

theorem opcodeMap_reflect (word : Word) :
    word &&& 0xFFC0FFFF#32 = 0x00000001#32 ↔ decode word = .ok (.reflect (word.toNat / 2 ^ 16 % 64)) :=
  opcodeMap_row (wellFormed_reflect.mpr (Nat.mod_lt _ (by decide))) (Laws.RowMatch.reflect _) fun h =>
    (congrArg (· ||| _) h.symm).trans (nbits_or_and_mask word)

/-- A row without free fields. -/
theorem opcodeMap_noFields {word : Word} {i : Instr} (hwf : i.wellFormed = true) (hrow : Laws.RowMatch.Statement i)
    (hmask : rowMask i = 0xFFFFFFFF#32) (hmatch : encode i = rowMatch i) :
    word &&& rowMask i = rowMatch i ↔ decode word = .ok i :=
  opcodeMap_row hwf hrow fun h => by
    rw [hmask] at h
    exact hmatch.trans (h.symm.trans BitVec.and_allOnes)

/-- A row whose free fields are RI and RO. -/
theorem opcodeMap_riRo {word : Word} {i : Instr} (hwf : i.wellFormed = true) (hrow : Laws.RowMatch.Statement i)
    (hmask : rowMask i = 0xFFFFFCFF#32)
    (hmatch : encode i = withReflection (rowMatch i) (word.getLsbD 8) (word.getLsbD 9)) :
    word &&& rowMask i = rowMatch i ↔ decode word = .ok i :=
  opcodeMap_row hwf hrow fun h => by
    rw [hmask] at h
    rw [hmatch, ← h, withReflection_and_mask]

/-- Settles O4: each row by the kind of its free fields. -/
theorem decodeIsTheOpcodeMap : Obligations.DecodeIsTheOpcodeMap := fun word =>
  ⟨opcodeMap_reflect word,
    opcodeMap_noFields rfl Laws.RowMatch.build8 rfl rfl,
    opcodeMap_noFields rfl Laws.RowMatch.build16 rfl rfl,
    opcodeMap_noFields rfl Laws.RowMatch.build32 rfl rfl,
    opcodeMap_riRo rfl (Laws.RowMatch.compute8 _ _) rfl rfl,
    opcodeMap_riRo rfl (Laws.RowMatch.compute16 _ _) rfl rfl,
    opcodeMap_riRo rfl (Laws.RowMatch.compute32 _ _) rfl rfl,
    opcodeMap_riRo rfl (Laws.RowMatch.crc8 _ _) rfl rfl,
    opcodeMap_riRo rfl (Laws.RowMatch.crc16 _ _) rfl rfl,
    opcodeMap_riRo rfl (Laws.RowMatch.crc32 _ _) rfl rfl⟩

/-! ## The illegal words -/

theorem not_illegalWord_encode {i : Instr} (h : i.wellFormed = true) : ¬ IllegalWord (encode i) := by
  unfold IllegalWord
  rcases instr_cases i with ⟨n, rfl⟩ | ⟨w, rfl⟩ | ⟨w, ri, ro, rfl⟩ | ⟨w, ri, ro, rfl⟩
  · have hn := wellFormed_reflect.mp h
    rw [encode_reflect_toNat hn]
    omega
  · have := wselOf_le w
    rw [encode_buildOf_toNat]
    omega
  all_goals
    have := wselOf_le w
    have := ri.toNat_le
    have := ro.toNat_le
  · rw [encode_computeOf_toNat]
    omega
  · rw [encode_crcOf_toNat]
    omega

theorem decode_error_iff (word : Word) : (∃ e, decode word = .error e) ↔ IllegalWord word := by
  cases h : decode word with
  | ok i =>
    obtain ⟨hwf, rfl⟩ := decode_eq_ok_iff.mp h
    simpa using not_illegalWord_encode hwf
  | error e =>
    cases h ▸ decode_rightAnswer word with
    | rejected _ hill => exact ⟨fun _ => hill, fun _ => ⟨e, rfl⟩⟩

/-- A word written to CMD. -/
theorem step_cmdWrite {s : State} {rest : List Transaction} {word : Word}
    (hs : s.script = .write 0x000#12 32 word :: rest) : step s = commandWrite word (withScript rest s) := by
  rw [step_of_script hs]
  rfl

/-- Settles O5: the words by the decoder's right answers, the CMD write by the rejection that an illegal word meets. -/
theorem illegalWordsRaiseIllcmd : Obligations.IllegalWordsRaiseIllcmd := by
  refine ⟨decode_error_iff, fun s rest word hs herr hill => ?_⟩
  obtain ⟨e, he⟩ := (decode_error_iff word).mpr hill
  have hcmd : commandWrite word (withScript rest s) = .next (illegalCommand (withScript rest s)) := by
    rw [commandWrite, he]
  rw [step_cmdWrite hs, hcmd, illegalCommand, command_of_ok (s := withScript rest s) herr, raiseFault_eq]
  rfl

end Sys2Proof
end

section
/-! SUPPORT. The Reflector, bit by bit, and the command that exposes it (spec/40_reflect.md R80, R81). -/

namespace Sys2Proof.Machine

/-- Bit j of what a loop pass adds: the bit the pass places at position m. -/
theorem reflectLoop_pass_getLsbD (m : Nat) (t r : Word) {j : Nat} (hj : j < 32) :
    (if t.getLsbD 0 then r ||| ((1#32) <<< m) else r).getLsbD j =
      (r.getLsbD j || (decide (j = m) && t.getLsbD 0)) := by
  have hone : ((1#32) <<< m).getLsbD j = decide (j = m) := by
    rw [← BitVec.twoPow_eq, BitVec.getLsbD_twoPow, ← Bool.decide_and, decide_eq_decide]
    omega
  cases t.getLsbD 0 <;> simp [hone]

/-- With m bit positions left the loop adds the low m bits of the input, reversed, to what it has gathered. -/
theorem reflectLoop_getLsbD (m : Nat) (t r : Word) {j : Nat} (hj : j < 32) :
    (reflectLoop m t r).getLsbD j = (r.getLsbD j || (decide (j < m) && t.getLsbD (m - 1 - j))) := by
  induction m generalizing t r with
  | zero => simp [reflectLoop]
  | succ m ih =>
    rw [reflectLoop, ih, reflectLoop_pass_getLsbD m t r hj, BitVec.getLsbD_ushiftRight, Bool.or_assoc]
    congr 1
    rcases Nat.lt_trichotomy j m with h | rfl | h
    · have hidx : 1 + (m - 1 - j) = m + 1 - 1 - j := by omega
      simp [h, h.ne, Nat.lt_add_right 1 h, hidx]
    · simp
    · simp [h.ne', h.not_gt, Nat.not_lt.mpr (Nat.succ_le_of_lt h)]

theorem reflect_getLsbD (v : Word) (n : Nat) {j : Nat} (hj : j < 32) :
    (reflect v n).getLsbD j = if j < n then v.getLsbD (n - 1 - j) else false := by
  rw [reflect, reflectLoop_getLsbD n v 0#32 hj]
  by_cases h : j < n <;> simp [h]

/-- Settles O21, by the bits the source's loop gathers. -/
theorem reflectReversesTheLowBits : Obligations.ReflectReversesTheLowBits :=
  fun v n _ _ hj => reflect_getLsbD v n hj

/-- REFLECT with an NBITS the Reflector is not defined for. -/
theorem effect_reflect_of_gt {n : Nat} (h : 32 < n) (s : State) : effect (.reflect n) s = raiseFault .nbits s :=
  if_pos h

theorem effect_reflect_of_le {n : Nat} (h : n ≤ 32) (s : State) :
    effect (.reflect n) s = setResult (reflect s.rval n) s := if_neg (Nat.not_lt.mpr h)

/-- Settles O23: the word by the encoder, the command by its two effects and the bits of the Reflector. -/
theorem reflectWritesTheReflectionOfRval : Obligations.ReflectWritesTheReflectionOfRval := by
  refine ⟨fun n hn => decode_encode_reflect hn, fun s n => ⟨exec_of_err _, fun herr hn => ?_, fun herr hn => ?_⟩⟩
  · rw [exec_of_ok _ herr, effect_reflect_of_gt hn]
    rfl
  · refine ⟨reflect s.rval n, ?_, fun j hj => reflect_getLsbD s.rval n hj⟩
    rw [exec_of_ok _ herr, effect_reflect_of_le hn]
    rfl

end Sys2Proof.Machine
end

section
/-! SUPPORT. The BUILD commands of the three widths: whole, and repeated (spec/41_table_build.md R92 to R95). -/

namespace Sys2Proof.Machine

/-- The table a build leaves depends on POLY alone, which the build keeps. -/
theorem build_build (w : Width) (s : State) : build w (build w s) = build w s := by cases w <;> rfl

theorem exec_buildOf_of_ok (w : Width) {s : State} (h : s.err = false) : exec (buildOf w) s = .next (build w s) := by
  rw [exec_of_ok _ h, effect_buildOf]

/-- After a BUILD the core is faulted and ignores the second one, or has built the table that the second one builds. -/
theorem exec_buildOf_again (w : Width) {s t : State} (h : exec (buildOf w) s = .next t) :
    exec (buildOf w) t = .next t := by
  rcases exec_next h with ⟨herr, rfl⟩ | ⟨hok, rfl⟩
  · exact exec_of_err _ herr
  · rw [effect_buildOf, exec_buildOf_of_ok w (by rw [build_err, hok]), build_build]

/-- Settles O29: one lemma for the BUILD of any width. -/
theorem rebuildingChangesNothing : Obligations.RebuildingChangesNothing := fun _ _ =>
  ⟨exec_buildOf_again .w8, exec_buildOf_again .w16, exec_buildOf_again .w32⟩

/-- The BUILD of width W, whole: its word, the ignored command, and the table, TPOLYW and TVW together. -/
theorem buildOf_whole (w : Width) :
    decode (encode (buildOf w)) = .ok (buildOf w) ∧
    ∀ s : State,
      (s.err = true → exec (buildOf w) s = .next s) ∧
      (s.err = false → ∃ T : Table w.bits,
        exec (buildOf w) s = .next (setTable w T (widen w (lowBits w s.poly)) s) ∧
        ∀ i : Byte, tableGet T i = entry (lowBits w s.poly) i) :=
  ⟨decodeOfEncodeIsTheCommand _ (wellFormed_buildOf w), fun s =>
    ⟨exec_of_err _, fun h => ⟨buildTable (lowBits w s.poly), exec_buildOf_of_ok w h, tableGet_buildTable _⟩⟩⟩

/-- Settles O26: the BUILD of any width, at W = 8. -/
theorem build8WritesTheTableOfPoly : Obligations.Build8WritesTheTableOfPoly := buildOf_whole .w8

/-- Settles O27: the BUILD of any width, at W = 16. -/
theorem build16WritesTheTableOfPoly : Obligations.Build16WritesTheTableOfPoly := buildOf_whole .w16

/-- Settles O28: the BUILD of any width, at W = 32, where the polynomial is all of POLY. -/
theorem build32WritesTheTableOfPoly : Obligations.Build32WritesTheTableOfPoly := by
  have h := buildOf_whole .w32
  simp only [widen_w32, lowBits_w32] at h
  exact h

end Sys2Proof.Machine
end

section
/-! SUPPORT. The CRC Engine as a function: its per-byte step, its output stage, the empty sequence and the sequence in
two parts (spec/42_crc_compute.md R100 to R103, R106). -/

namespace Sys2Proof.Machine

/-! ## The per-byte step -/

/-- In a register of more than 8 bits the byte stands above zeros. -/
theorem topByte_eq_append {W : Nat} (h : 8 < W) (b : Byte) :
    topByte W b = (b ++ 0#(W - 8)).cast (by omega) := by
  ext j hj
  by_cases hlow : j < W - 8
  · simp [topByte, BitVec.getElem_append, hlow]
  · have hbyte : j - (W - 8) < 8 := by omega
    simp [topByte, BitVec.getElem_append, hlow, BitVec.getLsbD_eq_getElem hbyte]

theorem tableStep_eq_append {W : Nat} (h : 8 < W) (T : Table W) (x : BitVec W) :
    tableStep T x =
      (x.extractLsb' 0 (W - 8) ++ 0#8).cast (by omega) ^^^ tableGet T (x.extractLsb' (W - 8) 8) := by
  rw [tableStep, BitVec.shiftLeft_eq_concat_of_lt h, BitVec.setWidth_ushiftRight_eq_extractLsb]

/-- The step in a register of more than 8 bits: index and shifted value both come from the register x that the byte has
been XORed into. -/
theorem foldByte_eq_append {W : Nat} (h : 8 < W) (T : Table W) (ri : Bool) (r : BitVec W) (b : Byte) {x : BitVec W}
    (hx : x = r ^^^ (inputByte ri b ++ 0#(W - 8)).cast (by omega)) :
    foldByte T ri r b =
      (x.extractLsb' 0 (W - 8) ++ 0#8).cast (by omega) ^^^ tableGet T (x.extractLsb' (W - 8) 8) := by
  rw [foldByte, topByte_eq_append h, ← hx, tableStep_eq_append h]

/-- At W = 8 the shift leaves nothing and the register is the index. -/
theorem foldByte_w8 (T : Table 8) (ri : Bool) (r b : Byte) : foldByte T ri r b = tableGet T (r ^^^ inputByte ri b) := by
  have htop : topByte 8 (inputByte ri b) = inputByte ri b := by simp [topByte]
  rw [foldByte, htop]
  simp [tableStep]

/-- Settles O30: the byte of the statement is that of the engine, width 8 has its own form, and widths 16 and 32 are two
cases of one. -/
theorem foldStepAtEachWidth : Obligations.FoldStepAtEachWidth := by
  intro ri b c hc
  have hbyte : inputByte ri b = c := hc.symm
  subst hbyte
  exact ⟨fun T r => foldByte_w8 T ri r b, fun T r _ hx => foldByte_eq_append (W := 16) (by decide) T ri r b hx,
    fun T r _ hx => foldByte_eq_append (W := 32) (by decide) T ri r b hx⟩

/-! ## The output stage -/

theorem widthBits_le (w : Width) : w.bits ≤ 32 := by cases w <;> decide

/-- The one Reflector reverses all the bits of a value that fits it. -/
theorem reflectBits_getLsbD {W : Nat} (h : W ≤ 32) (v : BitVec W) {j : Nat} (hj : j < W) :
    (reflectBits v).getLsbD j = v.getLsbD (W - 1 - j) := by
  have hj' : W - 1 - j < 32 := by omega
  rw [reflectBits, BitVec.getLsbD_setWidth, reflect_getLsbD _ _ (hj.trans_le h), if_pos hj, BitVec.getLsbD_setWidth]
  simp [hj, hj']

theorem finish_false {W : Nat} (r x : BitVec W) : finish r false x = r ^^^ x := rfl
theorem finish_true {W : Nat} (r x : BitVec W) : finish r true x = reflectBits r ^^^ x := rfl

/-- Settles O31, by the bits of the Reflector at any width. -/
theorem outputStageReflectsThenXors : Obligations.OutputStageReflectsThenXors := by
  refine fun w r x => ⟨finish_false r x, fun j hj => ?_⟩
  rw [finish_true, BitVec.getLsbD_xor, reflectBits_getLsbD (widthBits_le w) r hj]

/-! ## The whole sequence -/

theorem crc_nil {W : Nat} (T : Table W) (init x : BitVec W) (ri ro : Bool) : crc T [] init x ri ro = finish init ro x :=
  rfl

/-- Without output reflection and final XOR the checksum is the register itself. -/
theorem crc_plain {W : Nat} (T : Table W) (bytes : List Byte) (init : BitVec W) (ri : Bool) :
    crc T bytes init 0 ri false = bytes.foldl (foldByte T ri) init := by
  rw [crc, finish_false]
  exact BitVec.xor_zero

/-- Settles O40: the register after the first sequence is where the second one goes on. -/
theorem resultCanBeFedBackAsInit : Obligations.ResultCanBeFedBackAsInit := by
  intro w T xs ys init ri
  rw [crc_plain, crc_plain, crc_plain, List.foldl_append]

end Sys2Proof.Machine
end

section
/-! SUPPORT. The COMPUTE commands of the three widths: whole, on an empty sequence, and without the polynomials
(spec/42_crc_compute.md R103 to R109). -/

namespace Sys2Proof.Machine

/-! ## By the checks -/

theorem compute_of_no_table {w : Width} {s : State} (h : s.tv w = false) (ri ro : Bool) :
    compute w ri ro s = raiseFault .notable s := by
  simp [compute, h]

theorem compute_of_pastTop {w : Width} {s : State} (h : s.tv w = true) (hp : pastTop s = true) (ri ro : Bool) :
    compute w ri ro s = raiseFault .range s := by
  simp [compute, h, hp]

theorem compute_of_inRange {w : Width} {s : State} (h : s.tv w = true) (hin : InRange s) (ri ro : Bool) :
    compute w ri ro s = runEngine w ri ro s := by
  simp [compute, h, (pastTop_eq_false s).mpr hin]

theorem exec_computeOf_of_ok (w : Width) (ri ro : Bool) {s : State} (h : s.err = false) :
    exec (computeOf ri ro w) s = .next (compute w ri ro s) := by
  rw [exec_of_ok _ h, effect_computeOf]

/-! ## Whole -/

/-- The COMPUTE of width W, whole: its words, the ignored command, NOTABLE, RANGE, and the checksum of the sequence. -/
theorem computeOf_whole (w : Width) :
    (∀ ri ro, decode (encode (computeOf ri ro w)) = .ok (computeOf ri ro w)) ∧
    ∀ (s : State) (ri ro : Bool),
      (s.err = true → exec (computeOf ri ro w) s = .next s) ∧
      (s.err = false → s.tv w = false → exec (computeOf ri ro w) s = .next (raiseFault .notable s)) ∧
      (s.err = false → s.tv w = true → 0 < s.dlen.toNat → 2 ^ 32 < s.dptr.toNat + s.dlen.toNat →
        exec (computeOf ri ro w) s = .next (raiseFault .range s)) ∧
      (s.err = false → s.tv w = true → InRange s → exec (computeOf ri ro w) s = .next { s with
        result := widen w (crc (s.tbl w) (sequenceBytes s) (lowBits w s.init) (lowBits w s.xorout) ri ro)
        port := (sequenceAddresses s).reverse ++ s.port }) := by
  refine ⟨fun ri ro => decodeOfEncodeIsTheCommand _ (wellFormed_computeOf ri ro w), fun s ri ro =>
    ⟨exec_of_err _, fun hok hno => ?_, fun hok htv hlen htop => ?_, fun hok htv hin => ?_⟩⟩
  · rw [exec_computeOf_of_ok w ri ro hok, compute_of_no_table hno]
  · have hpast : pastTop s = true := decide_eq_true ⟨hlen, htop⟩
    rw [exec_computeOf_of_ok w ri ro hok, compute_of_pastTop htv hpast]
  · rw [exec_computeOf_of_ok w ri ro hok, compute_of_inRange htv hin, runEngine_inRange w ri ro s hin]

/-- Settles O34: the COMPUTE of any width, at W = 8. -/
theorem compute8WritesTheChecksum : Obligations.Compute8WritesTheChecksum :=
  have ⟨hword, hexec⟩ := computeOf_whole .w8
  ⟨⟨hword false false, hword true false, hword false true, hword true true⟩, hexec⟩

/-- Settles O35: the COMPUTE of any width, at W = 16. -/
theorem compute16WritesTheChecksum : Obligations.Compute16WritesTheChecksum :=
  have ⟨hword, hexec⟩ := computeOf_whole .w16
  ⟨⟨hword false false, hword true false, hword false true, hword true true⟩, hexec⟩

/-- Settles O36: the COMPUTE of any width, at W = 32, where the operand registers are used in full. -/
theorem compute32WritesTheChecksum : Obligations.Compute32WritesTheChecksum := by
  obtain ⟨hword, hexec⟩ := computeOf_whole .w32
  simp only [widen_w32, lowBits_w32] at hexec
  exact ⟨⟨hword false false, hword true false, hword false true, hword true true⟩, hexec⟩

/-! ## The empty sequence -/

theorem sequenceBytes_of_empty {s : State} (h : s.dlen = 0#32) : sequenceBytes s = [] := by
  simp [sequenceBytes, h]

theorem sequenceAddresses_of_empty {s : State} (h : s.dlen = 0#32) : sequenceAddresses s = [] := by
  simp [sequenceAddresses, h]

/-- A COMPUTE of an empty sequence: only RESULT changes. -/
theorem exec_computeOf_of_empty {w : Width} {s : State} (hok : s.err = false) (hlen : s.dlen = 0#32)
    (htv : s.tv w = true) (ri ro : Bool) :
    exec (computeOf ri ro w) s =
      .next { s with result := widen w (finish (lowBits w s.init) ro (lowBits w s.xorout)) } := by
  have hin : InRange s := .inl (congrArg BitVec.toNat hlen)
  rw [exec_computeOf_of_ok w ri ro hok, compute_of_inRange htv hin, runEngine_inRange w ri ro s hin,
    sequenceBytes_of_empty hlen, sequenceAddresses_of_empty hlen, crc_nil]
  rfl

/-- Settles O32: the function has no byte to fold in, and the command no byte to read. -/
theorem emptySequenceGivesTheFinishedInitialValue : Obligations.EmptySequenceGivesTheFinishedInitialValue := by
  refine ⟨fun _ => crc_nil, fun s ri ro hok hlen => ⟨fun htv => ?_, fun htv => ?_, fun htv => ?_⟩⟩
  · exact exec_computeOf_of_empty (w := .w8) hok hlen htv ri ro
  · exact exec_computeOf_of_empty (w := .w16) hok hlen htv ri ro
  · have h := exec_computeOf_of_empty (w := .w32) hok hlen htv ri ro
    simp only [widen_w32, lowBits_w32] at h
    exact h

/-! ## The polynomials -/

/-- Other values in POLY and in the three registers TPOLYW. -/
def withPolynomials (a b c d : Word) (s : State) : State :=
  { s with poly := a, tpoly8 := b, tpoly16 := c, tpoly32 := d }

theorem runEngine_withPolynomials (a b c d : Word) (w : Width) (ri ro : Bool) (s : State) :
    runEngine w ri ro (withPolynomials a b c d s) = withPolynomials a b c d (runEngine w ri ro s) := by
  rw [runEngine_eq, runEngine_eq]
  rfl

/-- Both runs meet the same checks and then commute with the change. -/
theorem compute_withPolynomials (a b c d : Word) (w : Width) (ri ro : Bool) (s : State) :
    compute w ri ro (withPolynomials a b c d s) = withPolynomials a b c d (compute w ri ro s) := by
  rcases compute_cases w ri ro s with ⟨htv, h⟩ | ⟨htv, hp, h⟩ | ⟨htv, hp, h⟩ <;> rw [h]
  · exact compute_of_no_table (s := withPolynomials a b c d s) htv ri ro
  · exact compute_of_pastTop (s := withPolynomials a b c d s) htv hp ri ro
  · rw [← runEngine_withPolynomials]
    exact compute_of_inRange (s := withPolynomials a b c d s) htv ((pastTop_eq_false s).mp hp) ri ro

theorem exec_computeOf_withPolynomials (a b c d : Word) {w : Width} {ri ro : Bool} {s t : State}
    (h : exec (computeOf ri ro w) s = .next t) :
    exec (computeOf ri ro w) (withPolynomials a b c d s) = .next (withPolynomials a b c d t) := by
  rw [exec_eq, effect_computeOf] at h ⊢
  cases h
  exact congrArg Host.Outcome.next (command_comm rfl (compute_withPolynomials a b c d w ri ro s))

/-- Settles O38: one lemma for the COMPUTE of any width. -/
theorem computeDoesNotReadPolynomials : Obligations.ComputeDoesNotReadPolynomials := by
  rintro s t ri ro a b c d i (rfl | rfl | rfl)
  · exact exec_computeOf_withPolynomials a b c d (w := .w8)
  · exact exec_computeOf_withPolynomials a b c d (w := .w16)
  · exact exec_computeOf_withPolynomials a b c d (w := .w32)

end Sys2Proof.Machine
end

section
/-! SUPPORT. The one-shot CRC commands of the three widths, whole (spec/43_crc_oneshot.md R120 to R123). -/

namespace Sys2Proof.Machine

/-! ## By the check -/

theorem crcOneShot_of_pastTop (w : Width) {s : State} (hp : pastTop s = true) (ri ro : Bool) :
    crcOneShot w ri ro s = raiseFault .range s := by
  simp [crcOneShot, hp]

theorem crcOneShot_of_inRange (w : Width) {s : State} (hin : InRange s) (ri ro : Bool) :
    crcOneShot w ri ro s = runEngine w ri ro (build w s) := by
  simp [crcOneShot, (pastTop_eq_false s).mpr hin]

theorem exec_crcOf_of_ok (w : Width) (ri ro : Bool) {s : State} (h : s.err = false) :
    exec (crcOf ri ro w) s = .next (crcOneShot w ri ro s) := by
  rw [exec_of_ok _ h, effect_crcOf]

/-! ## Whole -/

/-- The engine after a build runs with the table just built, on the sequence and the operands that the build keeps. -/
theorem runEngine_build_inRange (w : Width) (ri ro : Bool) {s : State} (hin : InRange s) :
    runEngine w ri ro (build w s) =
      setTable w (buildTable (lowBits w s.poly)) (widen w (lowBits w s.poly)) { s with
        result := widen w (crc (buildTable (lowBits w s.poly)) (sequenceBytes s) (lowBits w s.init)
          (lowBits w s.xorout) ri ro)
        port := (sequenceAddresses s).reverse ++ s.port } := by
  rw [runEngine_inRange w ri ro (build w s) ((build_inRange w s).mpr hin)]
  cases w <;> rfl

/-- The CRC of width W, whole: its words, the ignored command, RANGE before the build, and the table, TPOLYW and TVW
together with the checksum of the sequence. -/
theorem crcOf_whole (w : Width) :
    (∀ ri ro, decode (encode (crcOf ri ro w)) = .ok (crcOf ri ro w)) ∧
    ∀ (s : State) (ri ro : Bool),
      (s.err = true → exec (crcOf ri ro w) s = .next s) ∧
      (s.err = false → 0 < s.dlen.toNat → 2 ^ 32 < s.dptr.toNat + s.dlen.toNat →
        exec (crcOf ri ro w) s = .next (raiseFault .range s)) ∧
      (s.err = false → InRange s → ∃ T : Table w.bits, (∀ i : Byte, tableGet T i = entry (lowBits w s.poly) i) ∧
        exec (crcOf ri ro w) s = .next (setTable w T (widen w (lowBits w s.poly)) { s with
          result := widen w (crc T (sequenceBytes s) (lowBits w s.init) (lowBits w s.xorout) ri ro)
          port := (sequenceAddresses s).reverse ++ s.port })) := by
  refine ⟨fun ri ro => decodeOfEncodeIsTheCommand _ (wellFormed_crcOf ri ro w), fun s ri ro =>
    ⟨exec_of_err _, fun hok hlen htop => ?_, fun hok hin => ⟨buildTable (lowBits w s.poly), tableGet_buildTable _, ?_⟩⟩⟩
  · have hpast : pastTop s = true := decide_eq_true ⟨hlen, htop⟩
    rw [exec_crcOf_of_ok w ri ro hok, crcOneShot_of_pastTop w hpast]
  · rw [exec_crcOf_of_ok w ri ro hok, crcOneShot_of_inRange w hin, runEngine_build_inRange w ri ro hin]

/-- Settles O41: the CRC of any width, at W = 8. -/
theorem crc8BuildsAndWritesTheChecksum : Obligations.Crc8BuildsAndWritesTheChecksum :=
  have ⟨hword, hexec⟩ := crcOf_whole .w8
  ⟨⟨hword false false, hword true false, hword false true, hword true true⟩, hexec⟩

/-- Settles O42: the CRC of any width, at W = 16. -/
theorem crc16BuildsAndWritesTheChecksum : Obligations.Crc16BuildsAndWritesTheChecksum :=
  have ⟨hword, hexec⟩ := crcOf_whole .w16
  ⟨⟨hword false false, hword true false, hword false true, hword true true⟩, hexec⟩

/-- Settles O43: the CRC of any width, at W = 32, where the operand registers are used in full. -/
theorem crc32BuildsAndWritesTheChecksum : Obligations.Crc32BuildsAndWritesTheChecksum := by
  obtain ⟨hword, hexec⟩ := crcOf_whole .w32
  simp only [widen_w32, lowBits_w32] at hexec
  exact ⟨⟨hword false false, hword true false, hword false true, hword true true⟩, hexec⟩

end Sys2Proof.Machine
end

section
/-! SUPPORT. A host read of a table entry, by the entry's offset in the window (spec/20_memory.md R44, R54). -/

namespace Sys2Proof.Machine

/-- The three tables follow each other in the order of WSEL, one KiB each from 0x400. -/
theorem entryOffset_toNat (w : Width) (i : Byte) : (entryOffset w i).toNat = 0x400 * (wselOf w + 1) + 4 * i.toNat := by
  have := i.isLt
  cases w <;> simp only [entryOffset, wselOf, BitVec.toNat_ofNat] <;> omega

/-- The offset's top two bits select the table, and its eight middle bits the entry. -/
theorem locate_entryOffset (w : Width) (i : Byte) : locate (entryOffset w i) = some (.entry w i) := by
  have := i.isLt
  have := wselOf_le w
  have htable : ((entryOffset w i).extractLsb' 10 2).toNat = wselOf w + 1 := by
    rw [BitVec.extractLsb'_toNat, Nat.shiftRight_eq_div_pow, entryOffset_toNat]
    omega
  have hindex : (entryOffset w i).extractLsb' 2 8 = i := BitVec.eq_of_toNat_eq <| by
    rw [BitVec.extractLsb'_toNat, Nat.shiftRight_eq_div_pow, entryOffset_toNat]
    omega
  rw [locate, htable, hindex]
  cases w <;> rfl

theorem access_entryOffset (w : Width) (i : Byte) (act : Location → Host.Outcome State Fault Refusal) :
    access (entryOffset w i) 32 act = act (.entry w i) := by
  have haligned : (entryOffset w i).toNat % 4 = 0 := by
    rw [entryOffset_toNat]
    omega
  simp [access, haligned, locate_entryOffset]

theorem readEntry_of_valid {w : Width} {s : State} (h : s.tv w = true) (i : Byte) :
    readEntry w i s = returnToHost (widen w (tableGet (s.tbl w) i)) s := if_pos h

theorem readEntry_of_unbuilt {w : Width} {s : State} (h : s.tv w = false) (i : Byte) :
    readEntry w i s = takeDraw (returnToHost (Config.unbuiltRead s.draws) s) := if_neg (by simp [h])

section
variable {s : State} {rest : List Transaction} {w : Width} {i : Byte}
  (hs : s.script = .read (entryOffset w i) 32 :: rest)
include hs

theorem step_entryRead : step s = .next (readEntry w i (withScript rest s)) := by
  rw [step_of_script hs, perform, access_entryOffset, hostRead]

theorem step_entryRead_of_valid (h : s.tv w = true) :
    step s = .next { s with script := rest, reads := (tableGet (s.tbl w) i).setWidth 32 :: s.reads } := by
  rw [step_entryRead hs, readEntry_of_valid (s := withScript rest s) h]
  rfl

theorem step_entryRead_of_unbuilt (h : s.tv w = false) :
    step s = .next { s with script := rest, reads := Config.unbuiltRead s.draws :: s.reads, draws := s.draws + 1 } := by
  rw [step_entryRead hs, readEntry_of_unbuilt (s := withScript rest s) h]
  rfl

end

end Sys2Proof.Machine
end

section
/-! SUPPORT. The faults: how they are raised, what they change, how long they stay, and in which order the checks are
made (spec/60_exceptions.md R131 to R135). -/

namespace Sys2Proof.Machine

/-! ## While ERR = 1 -/

theorem illegalCommand_of_err {s : State} (h : s.err = true) : illegalCommand s = s := command_of_err h

theorem illegalCommand_of_ok {s : State} (h : s.err = false) : illegalCommand s = raiseFault .illcmd s := command_of_ok h

theorem commandWrite_of_err (word : Word) {s : State} (h : s.err = true) : commandWrite word s = .next s := by
  rcases commandWrite_cases word s with ⟨i, -, hw⟩ | ⟨e, -, hw⟩
  · rw [hw, command_of_err h]
  · rw [hw, illegalCommand_of_err h]

theorem step_cmdWrite_of_err {s : State} {rest : List Transaction} {word : Word}
    (hs : s.script = .write 0x000#12 32 word :: rest) (h : s.err = true) : step s = .next (withScript rest s) := by
  rw [step_cmdWrite hs, commandWrite_of_err word (s := withScript rest s) h]

/-- Settles O17: a faulted core ignores commands and CMD writes, and the other accesses do not look at ERR. -/
theorem faultedCoreIgnoresCommandsAndAnswersTheHost : Obligations.FaultedCoreIgnoresCommandsAndAnswersTheHost :=
  fun s rest herr =>
    ⟨fun i => exec_of_err i herr,
      fun _ hs => step_cmdWrite_of_err hs herr,
      fun r _ hs => step_operandWrite r hs,
      fun offset v => hostReadReturnsTheRegister s rest offset v,
      fun _ _ hs htv => step_entryRead_of_valid hs htv,
      fun _ _ hs htv => ⟨_, step_entryRead_of_unbuilt hs htv⟩⟩

/-- Settles O19: of the kinds a step can be, a command is ignored while ERR = 1, and only a reset writes ERR or CAUSE. -/
theorem faultStaysUntilReset : Obligations.FaultStaysUntilReset := by
  refine fun s t h herr => ⟨fun hreset => ?_, fun rest hs => ?_⟩
  · cases stepKind_of_step h with
    | command rest word i hs hd ht =>
      rw [ht, command_of_err (s := withScript rest s) herr]
      exact ⟨herr, rfl⟩
    | illegal rest word hs ht =>
      rw [ht, illegalCommand_of_err (s := withScript rest s) herr]
      exact ⟨herr, rfl⟩
    | operand rest r v hs ht => simp [ht, herr]
    | reset rest hs ht => exact absurd hs (hreset rest)
    | outside hcore hmem => exact ⟨hcore.err.trans herr, hcore.cause⟩
  · rw [step_of_script hs, perform] at h
    cases h
    exact ⟨rfl, rfl, rfl, rfl, rfl⟩

/-! ## Precision -/

theorem code_of_ne_illcmd {c : FaultCause} (h : c ≠ .illcmd) : c.code = 2#4 ∨ c.code = 3#4 ∨ c.code = 4#4 := by
  cases c with
  | illcmd => exact absurd rfl h
  | nbits => exact .inl rfl
  | notable => exact .inr (.inl rfl)
  | range => exact .inr (.inr rfl)

theorem code_cases (c : FaultCause) : c.code = 1#4 ∨ c.code = 2#4 ∨ c.code = 3#4 ∨ c.code = 4#4 := by
  by_cases h : c = .illcmd
  · exact .inl (h ▸ rfl)
  · exact .inr (code_of_ne_illcmd h)

/-- A command that sets ERR has raised one of its faults and done nothing else: its other effects leave ERR alone. -/
theorem effect_eq_raiseFault_of_err {i : Instr} {s : State} (hs : s.err = false) (ht : (effect i s).err = true) :
    ∃ c, c ≠ .illcmd ∧ effect i s = raiseFault c s := by
  rcases effect_cases i s with ⟨n, -, h⟩ | ⟨w, -, h⟩ | ⟨w, ri, ro, -, -, -, h⟩ | ⟨w, ri, ro, -, -, h⟩ | hfault
  case inr.inr.inr.inr => exact hfault
  all_goals simp [h, hs] at ht

/-- A CMD write completes, and if it sets ERR it has raised a fault and done nothing else. -/
theorem commandWrite_fault (word : Word) {s : State} (hs : s.err = false) :
    ∃ t, commandWrite word s = .next t ∧ (t.err = true → ∃ c, t = raiseFault c s) := by
  rcases commandWrite_cases word s with ⟨i, -, hw⟩ | ⟨e, -, hw⟩
  · rw [command_of_ok hs] at hw
    refine ⟨effect i s, hw, fun ht => ?_⟩
    obtain ⟨c, -, hc⟩ := effect_eq_raiseFault_of_err hs ht
    exact ⟨c, hc⟩
  · rw [illegalCommand_of_ok hs] at hw
    exact ⟨raiseFault .illcmd s, hw, fun _ => ⟨.illcmd, rfl⟩⟩

/-- Settles O18: a command or a CMD write that sets ERR has raised a fault, which writes ERR and CAUSE alone. -/
theorem faultsArePrecise : Obligations.FaultsArePrecise := by
  refine ⟨fun i s t h hs ht => ?_, fun s rest word hscript hs => ?_⟩
  · rw [exec_of_ok i hs] at h
    cases h
    obtain ⟨c, hc, he⟩ := effect_eq_raiseFault_of_err hs ht
    rw [he]
    exact ⟨rfl, code_of_ne_illcmd hc⟩
  · obtain ⟨t, ht, hfault⟩ := commandWrite_fault word (s := withScript rest s) hs
    refine ⟨t, (step_cmdWrite hscript).trans ht, fun herr => ?_⟩
    obtain ⟨c, rfl⟩ := hfault herr
    exact ⟨rfl, code_cases c⟩

/-! ## The order of the checks -/

/-- NOTABLE comes before RANGE: nothing is asked of DPTR and DLEN. -/
theorem exec_computeOf_of_no_table {w : Width} {s : State} (hok : s.err = false) (htv : s.tv w = false) (ri ro : Bool) :
    exec (computeOf ri ro w) s = .next (raiseFault .notable s) := by
  rw [exec_computeOf_of_ok w ri ro hok, compute_of_no_table htv]

theorem exec_computeOf_of_not_inRange {w : Width} {s : State} (hok : s.err = false) (hout : ¬ InRange s)
    (htv : s.tv w = true) (ri ro : Bool) : exec (computeOf ri ro w) s = .next (raiseFault .range s) := by
  rw [exec_computeOf_of_ok w ri ro hok, compute_of_pastTop htv ((pastTop_eq_true s).mpr hout)]

theorem exec_crcOf_of_not_inRange (w : Width) {s : State} (hok : s.err = false) (hout : ¬ InRange s) (ri ro : Bool) :
    exec (crcOf ri ro w) s = .next (raiseFault .range s) := by
  rw [exec_crcOf_of_ok w ri ro hok, crcOneShot_of_pastTop w ((pastTop_eq_true s).mpr hout)]

/-- Settles O20: the checks of a CMD write by the word, those of the commands by one lemma for each check at any width. -/
theorem checksAreMadeInOrder : Obligations.ChecksAreMadeInOrder := by
  refine ⟨fun s rest word hs => ⟨step_cmdWrite_of_err hs, fun hok hill => ?_⟩, fun s n hok hn => ?_,
    fun s ri ro hok => ⟨?_, ?_, ?_, ?_, ?_, ?_, ?_, ?_, ?_⟩, .unusedField, rfl⟩
  · exact illegalWordsRaiseIllcmd.2 s rest word hs hok ((decode_error_iff word).mp hill)
  · rw [exec_of_ok _ hok, effect_reflect_of_gt hn]
    rfl
  · exact fun htv => exec_computeOf_of_no_table (w := .w8) hok htv ri ro
  · exact fun htv => exec_computeOf_of_no_table (w := .w16) hok htv ri ro
  · exact fun htv => exec_computeOf_of_no_table (w := .w32) hok htv ri ro
  · exact fun hout htv => exec_computeOf_of_not_inRange (w := .w8) hok hout htv ri ro
  · exact fun hout htv => exec_computeOf_of_not_inRange (w := .w16) hok hout htv ri ro
  · exact fun hout htv => exec_computeOf_of_not_inRange (w := .w32) hok hout htv ri ro
  · exact fun hout => exec_crcOf_of_not_inRange .w8 hok hout ri ro
  · exact fun hout => exec_crcOf_of_not_inRange .w16 hok hout ri ro
  · exact fun hout => exec_crcOf_of_not_inRange .w32 hok hout ri ro

end Sys2Proof.Machine
end

section
/-! SUPPORT. Completion of the commands and the transaction that resets the core (spec/70_reset_and_hazards.md R150, R151,
R160). -/

namespace Sys2Proof.Machine

/-- Every word written to CMD is answered, by its command or as an illegal one. -/
theorem commandWrite_completes (word : Word) (s : State) : ∃ t, commandWrite word s = .next t := by
  rcases commandWrite_cases word s with ⟨i, -, hw⟩ | ⟨e, -, hw⟩
  · exact ⟨_, hw⟩
  · exact ⟨_, hw⟩

/-- Settles O7: a CMD write is answered whatever its word is, and a command by its effect or by nothing. -/
theorem everyCommandCompletes : Obligations.EveryCommandCompletes := by
  refine ⟨fun s rest word hs => ?_, fun i s => ⟨_, exec_eq i s⟩⟩
  rw [step_cmdWrite hs]
  exact commandWrite_completes word (withScript rest s)

theorem step_reset {s : State} {rest : List Transaction} (hs : s.script = .reset :: rest) :
    step s = .next (resetCore (withScript rest s)) := by
  rw [step_of_script hs, perform]

/-- STATUS is put together from the fields that reset clears. -/
@[simp] theorem resetCore_status (s : State) : (resetCore s).status = 0#32 := by
  simp [State.status]

/-- Settles O16: the step is a reset of the core, which writes no field outside it. -/
theorem resetTransactionRestoresTheResetValues : Obligations.ResetTransactionRestoresTheResetValues :=
  fun s rest hs => ⟨resetCore (withScript rest s), step_reset hs, resetCore_status _,
    rfl, rfl, rfl, rfl, rfl, rfl, rfl, rfl, rfl, rfl, rfl, rfl, rfl, rfl⟩

end Sys2Proof.Machine
end

section
/-! SUPPORT. Division by the polynomial, step by step, and the table entries it gives (spec/41_table_build.md R90, R91). -/

namespace Sys2Proof.Machine

/-! ## Division steps -/

theorem divStep_of_topBit_clear {W : Nat} {r : BitVec W} (h : r.getLsbD (W - 1) = false) (p : BitVec W) :
    divStep r p = r <<< 1 := by
  simp [divStep, h]

theorem divStep_of_topBit_set {W : Nat} {r : BitVec W} (h : r.getLsbD (W - 1) = true) (p : BitVec W) :
    divStep r p = (r <<< 1) ^^^ p := by
  simp [divStep, h]

/-- A division step is linear in the register: the two polynomials that two steps may add are one, or cancel. -/
theorem divStep_xor {W : Nat} (a b p : BitVec W) : divStep (a ^^^ b) p = divStep a p ^^^ divStep b p := by
  have hstep (r : BitVec W) : divStep r p = (r <<< 1) ^^^ (if r.getLsbD (W - 1) then p else 0#W) := by
    cases htop : r.getLsbD (W - 1) with
    | true => exact divStep_of_topBit_set htop p
    | false => simpa using divStep_of_topBit_clear htop p
  have hadd (x y : Bool) :
      (if x ^^ y then p else 0#W) = (if x then p else 0#W) ^^^ (if y then p else 0#W) := by
    cases x <;> cases y <;> simp
  rw [hstep, hstep a, hstep b, BitVec.getLsbD_xor, hadd, BitVec.shiftLeft_xor_distrib]
  ac_rfl

theorem divSteps_xor {W : Nat} (p : BitVec W) (n : Nat) (a b : BitVec W) :
    divSteps p n (a ^^^ b) = divSteps p n a ^^^ divSteps p n b := by
  induction n generalizing a b with
  | zero => rfl
  | succ n ih => rw [divSteps, divStep_xor, ih, divSteps, divSteps]

theorem divSteps_succ_last {W : Nat} (p : BitVec W) (n : Nat) (r : BitVec W) :
    divSteps p (n + 1) r = divStep (divSteps p n r) p := by
  induction n generalizing r with
  | zero => rfl
  | succ n ih => rw [divSteps, ih, divSteps]

/-- While the top bits are clear, division only shifts. -/
theorem divSteps_of_topBits_clear {W : Nat} (p : BitVec W) {n : Nat} {r : BitVec W}
    (h : ∀ j < n, r.getLsbD (W - 1 - j) = false) : divSteps p n r = r <<< n := by
  induction n generalizing r with
  | zero => simp [divSteps]
  | succ n ih =>
    have hnext : ∀ j < n, (r <<< 1).getLsbD (W - 1 - j) = false := fun j hj => by
      have := h (j + 1) (by omega)
      rw [← Nat.sub_sub] at this
      simp [this]
    rw [divSteps, divStep_of_topBit_clear (h 0 n.succ_pos), ih hnext, ← BitVec.shiftLeft_add, Nat.add_comm]

/-- Division by the polynomial 0 only shifts. -/
theorem divSteps_zero_polynomial {W : Nat} (n : Nat) (r : BitVec W) : divSteps 0 n r = r <<< n := by
  induction n generalizing r with
  | zero => simp [divSteps]
  | succ n ih =>
    have hstep : divStep r 0 = r <<< 1 := by simp [divStep]
    rw [divSteps, hstep, ih, ← BitVec.shiftLeft_add, Nat.add_comm]

/-- A step by an odd polynomial loses nothing: bit 0 of its result is the bit shifted out. -/
theorem eq_zero_of_divStep_eq_zero {W : Nat} {p r : BitVec W} (hp : p.getLsbD 0 = true) (h : divStep r p = 0) :
    r = 0 := by
  cases htop : r.getLsbD (W - 1) with
  | true =>
    rw [divStep_of_topBit_set htop] at h
    have hbit := congrArg (·.getLsbD 0) h
    simp [hp] at hbit
  | false =>
    rw [divStep_of_topBit_clear htop] at h
    refine BitVec.eq_of_getLsbD_eq fun j hj => ?_
    by_cases hlast : j = W - 1
    · simp [hlast, htop]
    · have hbit := congrArg (·.getLsbD (j + 1)) h
      have hj' : j + 1 < W := by omega
      simpa [hj, hj'] using hbit

theorem eq_zero_of_divSteps_eq_zero {W : Nat} {p : BitVec W} (hp : p.getLsbD 0 = true) {n : Nat} {r : BitVec W}
    (h : divSteps p n r = 0) : r = 0 := by
  induction n generalizing r with
  | zero => exact h
  | succ n ih => exact eq_zero_of_divStep_eq_zero hp (ih h)

/-! ## Table entries -/

theorem le_widthBits (w : Width) : 8 ≤ w.bits := by cases w <;> decide

theorem topByte_xor (W : Nat) (a b : Byte) : topByte W (a ^^^ b) = topByte W a ^^^ topByte W b := by
  simp [topByte, BitVec.shiftLeft_xor_distrib]

theorem topByte_shiftLeft {W : Nat} (h : 8 ≤ W) (b : Byte) : topByte W b <<< 8 = 0 := by
  have hall : W - 8 + 8 = W := by omega
  simp [topByte, ← BitVec.shiftLeft_add, hall]

theorem entry_xor {W : Nat} (p : BitVec W) (a b : Byte) : entry p (a ^^^ b) = entry p a ^^^ entry p b := by
  rw [entry, topByte_xor, divSteps_xor, entry, entry]

theorem entry_zero {W : Nat} (p : BitVec W) : entry p 0#8 = 0 := by
  have h := entry_xor p 0#8 0#8
  rwa [BitVec.xor_self, BitVec.xor_self] at h

theorem twoPow_shiftLeft (W i n : Nat) : BitVec.twoPow W i <<< n = BitVec.twoPow W (i + n) := by
  rw [BitVec.twoPow_eq, BitVec.twoPow_eq, BitVec.shiftLeft_add]

theorem topByte_one (W : Nat) : topByte W 1#8 = BitVec.twoPow W (W - 8) := by
  rw [topByte, BitVec.twoPow_eq, BitVec.setWidth_ofNat_one_eq_ofNat_one_of_lt (by decide)]

/-- The 1 of the byte 1 reaches the top bit after seven steps, and the eighth replaces it by the polynomial. -/
theorem entry_one {W : Nat} (h : 8 ≤ W) (p : BitVec W) : entry p 1#8 = p := by
  have hclear : ∀ j < 7, (BitVec.twoPow W (W - 8)).getLsbD (W - 1 - j) = false := fun j hj => by
    have hne : W - 8 ≠ W - 1 - j := by omega
    simp [BitVec.getLsbD_twoPow, hne]
  have hseven : divSteps p 7 (topByte W 1#8) = BitVec.twoPow W (W - 1) := by
    have hpos : W - 8 + 7 = W - 1 := by omega
    rw [topByte_one, divSteps_of_topBits_clear p hclear, twoPow_shiftLeft, hpos]
  have htop : (BitVec.twoPow W (W - 1)).getLsbD (W - 1) = true := by
    have hlt : W - 1 < W := by omega
    simp [hlt]
  have hout : BitVec.twoPow W (W - 1) <<< 1 = 0#W := by
    rw [twoPow_shiftLeft, BitVec.twoPow_eq]
    exact BitVec.shiftLeft_eq_zero (by omega)
  rw [entry, divSteps_succ_last, hseven, divStep_of_topBit_set htop, hout, BitVec.zero_xor]

theorem entry_zero_polynomial {W : Nat} (h : 8 ≤ W) (b : Byte) : entry (0 : BitVec W) b = 0 := by
  rw [entry, divSteps_zero_polynomial, topByte_shiftLeft h]

/-- Settles O24: linearity from the division steps, and with it entry 0; entry 1 by its one step that is no shift. -/
theorem tableEntriesObeyTheirLaws : Obligations.TableEntriesObeyTheirLaws := fun w =>
  ⟨fun p => ⟨entry_zero p, entry_one (le_widthBits w) p⟩, entry_xor, entry_zero_polynomial (le_widthBits w)⟩

/-- Settles O25: by linearity the difference of two equal entries is a byte whose entry is 0, and division by an odd
polynomial takes only 0 there. -/
theorem oddPolynomialsGiveDistinctEntries : Obligations.OddPolynomialsGiveDistinctEntries := by
  intro p hp a b h
  have hentry : entry p (a ^^^ b) = 0 := by
    rw [entry_xor, h]
    exact BitVec.xor_self
  have htop : topByte 8 (a ^^^ b) = 0 := eq_zero_of_divSteps_eq_zero hp hentry
  have hdiff : a ^^^ b = 0#8 := by simpa [topByte] using htop
  exact BitVec.xor_eq_zero_iff.mp hdiff

end Sys2Proof.Machine
end

section
/-! SUPPORT. The table-driven computation is the bit-by-bit one, as a function and in the commands
(spec/42_crc_compute.md R110). -/

namespace Sys2Proof.Machine

/-! ## The function -/

/-- A register without its top byte has its top eight bits clear. -/
theorem xor_topByte_topBits_clear {W : Nat} (h : 8 ≤ W) (x : BitVec W) :
    ∀ j < 8, (x ^^^ topByte W ((x >>> (W - 8)).setWidth 8)).getLsbD (W - 1 - j) = false := by
  intro j hj
  have hlt : W - 1 - j < W := by omega
  have hhigh : ¬ W - 1 - j < W - 8 := by omega
  have hbyte : W - 1 - j - (W - 8) < 8 := by omega
  have hback : W - 8 + (W - 1 - j - (W - 8)) = W - 1 - j := by omega
  simp [topByte, hlt, hhigh, hbyte, hback]

/-- Eight division steps are one table step: of the top byte they leave its entry, and the rest they only shift. -/
theorem divSteps_eight {W : Nat} (h : 8 ≤ W) (p x : BitVec W) :
    divSteps p 8 x = (x <<< 8) ^^^ entry p ((x >>> (W - 8)).setWidth 8) := by
  generalize hb : (x >>> (W - 8)).setWidth 8 = b
  have hclear := xor_topByte_topBits_clear h x
  rw [hb] at hclear
  calc divSteps p 8 x = divSteps p 8 ((x ^^^ topByte W b) ^^^ topByte W b) := by
        rw [BitVec.xor_assoc, BitVec.xor_self, BitVec.xor_zero]
    _ = ((x ^^^ topByte W b) <<< 8) ^^^ entry p b := by
        rw [divSteps_xor, divSteps_of_topBits_clear p hclear, entry]
    _ = (x <<< 8) ^^^ entry p b := by
        rw [BitVec.shiftLeft_xor_distrib, topByte_shiftLeft h]
        congr 1
        exact BitVec.xor_zero

theorem foldByte_eq_bitwiseByte {W : Nat} (h : 8 ≤ W) {T : Table W} {p : BitVec W} (hT : TableHolds T p) (ri : Bool) :
    foldByte T ri = bitwiseByte p ri := by
  funext r b
  rw [foldByte, tableStep, hT, bitwiseByte, divSteps_eight h]

theorem crc_eq_bitwise {w : Width} {T : Table w.bits} {p : BitVec w.bits} (hT : TableHolds T p) (bytes : List Byte)
    (init x : BitVec w.bits) (ri ro : Bool) : crc T bytes init x ri ro = bitwise p bytes init x ri ro := by
  rw [crc, foldByte_eq_bitwiseByte (le_widthBits w) hT, bitwise]

/-- Settles O33: the engine's step is eight division steps, byte for byte. -/
theorem tableDrivenIsBitwise : Obligations.TableDrivenIsBitwise := fun w p =>
  ⟨fun _ bytes init x ri ro hT => crc_eq_bitwise hT bytes init x ri ro, divSteps_eight (le_widthBits w) p⟩

/-! ## The commands -/

/-- A COMPUTE in a state whose valid tables are those of TPOLYW. -/
theorem exec_computeOf_eq_bitwise {s : State} (hinv : Inv s) (hok : s.err = false) (hin : InRange s) {w : Width}
    (htv : s.tv w = true) (ri ro : Bool) :
    exec (computeOf ri ro w) s = .next { s with
      result := widen w (bitwise (lowBits w (s.tpoly w)) (sequenceBytes s) (lowBits w s.init) (lowBits w s.xorout) ri ro)
      port := (sequenceAddresses s).reverse ++ s.port } := by
  have hT : TableHolds (s.tbl w) (lowBits w (s.tpoly w)) := (hinv.tableBound w).2 htv
  rw [exec_computeOf_of_ok w ri ro hok, compute_of_inRange htv hin, runEngine_inRange w ri ro s hin, crc_eq_bitwise hT]

/-- Settles O37: the COMPUTE of any width, at the three widths. -/
theorem computeIsTheDivisionByTpoly : Obligations.ComputeIsTheDivisionByTpoly := by
  refine fun s ri ro hinv hok hin => ⟨fun htv => ?_, fun htv => ?_, fun htv => ?_⟩
  · exact exec_computeOf_eq_bitwise hinv hok hin (w := .w8) htv ri ro
  · exact exec_computeOf_eq_bitwise hinv hok hin (w := .w16) htv ri ro
  · have h := exec_computeOf_eq_bitwise hinv hok hin (w := .w32) htv ri ro
    simp only [widen_w32, lowBits_w32] at h
    exact h

/-- A CRC whose sequence is in range: the table it builds is that of POLY. -/
theorem exec_crcOf_result_eq_bitwise {s : State} (hok : s.err = false) (hin : InRange s) (w : Width) (ri ro : Bool) :
    ∃ t, exec (crcOf ri ro w) s = .next t ∧ t.result =
      widen w (bitwise (lowBits w s.poly) (sequenceBytes s) (lowBits w s.init) (lowBits w s.xorout) ri ro) := by
  refine ⟨_, exec_crcOf_of_ok w ri ro hok, ?_⟩
  rw [crcOneShot_of_inRange w hin, runEngine_build_inRange w ri ro hin, setTable_result,
    crc_eq_bitwise (tableGet_buildTable _)]

/-- Settles O46: the CRC of any width, at the three widths. -/
theorem oneShotIsTheDivisionByPoly : Obligations.OneShotIsTheDivisionByPoly := by
  refine fun s ri ro hok hin => ⟨?_, ?_, ?_⟩
  · exact exec_crcOf_result_eq_bitwise hok hin .w8 ri ro
  · exact exec_crcOf_result_eq_bitwise hok hin .w16 ri ro
  · have h := exec_crcOf_result_eq_bitwise hok hin .w32 ri ro
    simp only [widen_w32, lowBits_w32] at h
    exact h

end Sys2Proof.Machine
end

section
/-! SUPPORT. The one-shot form against BUILD and then COMPUTE (spec/43_crc_oneshot.md R120, R124). -/

namespace Sys2Proof.Machine

/-- Settles O44: both forms end in the engine's run on the table just built. -/
theorem oneShotIsBuildThenCompute : Obligations.OneShotIsBuildThenCompute := by
  intro s w ri ro hok hin
  have hok' : (build w s).err = false := by rw [build_err, hok]
  refine ⟨build w s, runEngine w ri ro (build w s), exec_buildOf_of_ok w hok, ?_, ?_, ?_⟩
  · rw [exec_computeOf_of_ok w ri ro hok', compute_of_inRange (build_tv w s) ((build_inRange w s).mpr hin)]
  · rw [exec_crcOf_of_ok w ri ro hok, crcOneShot_of_inRange w hin]
  · rw [runEngine_err, hok']

/-- Settles O45: the check of CRC stands before its build, that of COMPUTE after the BUILD, which keeps the sequence. -/
theorem oneShotFaultsBeforeItBuilds : Obligations.OneShotFaultsBeforeItBuilds := by
  intro s w ri ro hok hout
  have hok' : (build w s).err = false := by rw [build_err, hok]
  have hout' : ¬ InRange (build w s) := mt (build_inRange w s).mp hout
  exact ⟨exec_crcOf_of_not_inRange w hok hout ri ro, build w s, exec_buildOf_of_ok w hok, build_tv w s,
    exec_computeOf_of_not_inRange hok' hout' (build_tv w s) ri ro⟩

end Sys2Proof.Machine
end

section
/-! SUPPORT. The laws of the Reflector (spec/40_reflect.md section 1). -/

namespace Sys2Proof.Machine

theorem and_lowMask_toNat {n : Nat} (hn : n ≤ 32) (v : Word) :
    (v &&& BitVec.ofNat 32 (2 ^ n - 1)).toNat = v.toNat % 2 ^ n := by
  have hmask : 2 ^ n - 1 < 2 ^ 32 := by
    have := Nat.pow_le_pow_right (n := 2) (by decide) hn
    omega
  rw [BitVec.toNat_and, BitVec.toNat_ofNat, Nat.mod_eq_of_lt hmask, Nat.and_two_pow_sub_one_eq_mod]

theorem and_lowMask_getLsbD {n : Nat} (hn : n ≤ 32) (v : Word) (j : Nat) :
    (v &&& BitVec.ofNat 32 (2 ^ n - 1)).getLsbD j = (decide (j < n) && v.getLsbD j) := by
  rw [BitVec.getLsbD, and_lowMask_toNat hn, Nat.testBit_mod_two_pow, BitVec.getLsbD]

section
variable {n : Nat} (hn : n ≤ 32)
include hn

theorem reflect_reflect (v : Word) : reflect (reflect v n) n = v &&& BitVec.ofNat 32 (2 ^ n - 1) := by
  refine BitVec.eq_of_getLsbD_eq fun j hj => ?_
  rw [reflect_getLsbD _ n hj, and_lowMask_getLsbD hn]
  by_cases hjn : j < n
  · have hback : n - 1 - (n - 1 - j) = j := by omega
    rw [if_pos hjn, reflect_getLsbD v n (by omega), if_pos (by omega), hback]
    simp [hjn]
  · simp [hjn]

theorem reflect_and_lowMask (v : Word) : reflect (v &&& BitVec.ofNat 32 (2 ^ n - 1)) n = reflect v n := by
  refine BitVec.eq_of_getLsbD_eq fun j hj => ?_
  rw [reflect_getLsbD _ n hj, reflect_getLsbD v n hj, and_lowMask_getLsbD hn]
  by_cases hjn : j < n
  · have hlow : n - 1 - j < n := by omega
    simp [hlow]
  · simp [hjn]

/-- A reflection is what three reflections give, and so a masked value. -/
theorem reflect_toNat_lt (v : Word) : (reflect v n).toNat < 2 ^ n := by
  have hthree := reflect_reflect hn (reflect v n)
  rw [reflect_reflect hn v, reflect_and_lowMask hn] at hthree
  rw [hthree, and_lowMask_toNat hn]
  exact Nat.mod_lt _ (Nat.two_pow_pos n)

end

theorem reflect_xor (a b : Word) (n : Nat) : reflect (a ^^^ b) n = reflect a n ^^^ reflect b n := by
  refine BitVec.eq_of_getLsbD_eq fun j hj => ?_
  rw [BitVec.getLsbD_xor, reflect_getLsbD _ n hj, reflect_getLsbD a n hj, reflect_getLsbD b n hj]
  split
  · exact BitVec.getLsbD_xor
  · rfl

/-- Of one bit the reflection is that bit. -/
theorem reflect_one (v : Word) : reflect v 1 = v &&& 1#32 := (BitVec.and_twoPow v 0).symm

/-- Settles O22: (a) and the bound of (b) follow from (c), that reflecting twice masks; (d) holds bit by bit. -/
theorem reflectObeysItsLaws : Obligations.ReflectObeysItsLaws := by
  refine fun n hn => ⟨fun x hx => ?_, fun v => ⟨(reflect_and_lowMask hn v).symm, reflect_toNat_lt hn v⟩,
    reflect_reflect hn, fun a b => reflect_xor a b n, fun v => ⟨reflect_one v, rfl⟩⟩
  rw [reflect_reflect hn]
  exact BitVec.eq_of_toNat_eq ((and_lowMask_toNat hn x).trans (Nat.mod_eq_of_lt hx))

end Sys2Proof.Machine
end

section
/-! SUPPORT. What reaches DMEM, and the single transactions and states: a command write, a table entry read by the host,
the platform's store, the idle step, the state after reset (spec/10_state.md R10, R31, spec/20_memory.md R43, R44, R46). -/

namespace Sys2Proof.Machine

/-! ## DMEM -/

/-- No command writes DMEM (R46). -/
theorem effect_mem (i : Instr) (s : State) : (effect i s).mem = s.mem := by
  rcases effect_cases i s with ⟨n, -, h⟩ | ⟨w, -, h⟩ | ⟨w, ri, ro, -, -, -, h⟩ | ⟨w, ri, ro, -, -, h⟩ | ⟨c, -, h⟩ <;>
    simp [h]

/-- Settles O49: of the kinds a step can be, only the platform's store reaches DMEM. -/
theorem coreNeverWritesDataMemory : Obligations.CoreNeverWritesDataMemory := by
  refine ⟨fun i s t h => ?_, fun s t h hstore => ?_⟩
  · rcases exec_next h with ⟨-, rfl⟩ | ⟨-, rfl⟩
    · rfl
    · exact effect_mem i s
  · cases stepKind_of_step h with
    | command rest word i hs hd ht => rw [ht, command_keeps (·.mem) (effect_mem i _), withScript_mem]
    | illegal rest word hs ht =>
      rw [ht, illegalCommand, command_keeps (·.mem) (raiseFault_mem _ _), withScript_mem]
    | operand rest r v hs ht => rw [ht, setOperand_mem, withScript_mem]
    | reset rest hs ht => rw [ht, resetCore_mem, withScript_mem]
    | outside hcore hmem =>
      rcases hmem with hm | ⟨a, b, rest, hs, -⟩
      · exact hm
      · exact absurd hs (hstore a b rest)

/-- Settles O14, by the laws of the data memory. -/
theorem platformStoreChangesOneByte : Obligations.PlatformStoreChangesOneByte := by
  refine fun s rest a b hwf hs => ⟨Memory.write s.mem a.toNat b, ?_, Memory.read_write_same _ _ _ hwf,
    fun a' ha' => Memory.read_write_other _ _ _ _ ha' hwf⟩
  rw [step_of_script hs, perform]
  rfl

/-! ## The host's transactions -/

/-- Settles O10: the read finds the entry at its offset, and returns it or a free value. -/
theorem hostReadReturnsTheTableEntry : Obligations.HostReadReturnsTheTableEntry := fun _ _ _ _ hs =>
  ⟨step_entryRead_of_valid hs, fun htv => ⟨_, step_entryRead_of_unbuilt hs htv⟩⟩

/-- Settles O6: the write reaches CMD, and the decoder answers with the command. -/
theorem commandWriteRunsTheDecodedCommand : Obligations.CommandWriteRunsTheDecodedCommand := by
  intro s rest word i hs hd
  rw [step_cmdWrite hs, commandWrite, hd]
  rfl

/-- Settles O13: a step with no transaction to perform. -/
theorem idleStepChangesNothing : Obligations.IdleStepChangesNothing := by
  intro s hs
  unfold step nextTransaction
  rw [hs]

/-! ## The reset state -/

/-- Settles O54: after reset nothing has faulted and no table is valid. -/
theorem resetMeetsTheInvariant : Obligations.ResetMeetsTheInvariant where
  memory := reset_memory_wf
  fault := ⟨fun _ => rfl, nofun⟩
  table8 := ⟨by decide, nofun⟩
  table16 := ⟨by decide, nofun⟩
  table32 := ⟨by decide, nofun⟩

end Sys2Proof.Machine
end
